-- ==== Sys2Proof/Word.lean ====
section
/-!
DEFINITION. The machine's two word sizes and their plainest arithmetic (spec/00_scope.md R6, R9, R10).
-/

namespace Sys2Proof

/-- A byte: the width of A, X, Y, SP, P and of every bus access (R6, R66). -/
abbrev Byte := BitVec 8

/-- A 16-bit word: PC and every bus address (R6, R50). -/
abbrev Word := BitVec 16

/-- `hi8(w) = w[15:8]` (R9). The page of an address (R15). -/
abbrev hi8 (w : Word) : Byte := w.extractLsb' 8 8

/-- `lo8(w) = w[7:0]` (R9). -/
abbrev lo8 (w : Word) : Byte := w.extractLsb' 0 8

/-- `hi:lo`, the concatenation of two bytes (R9). -/
abbrev wordOf (hi lo : Byte) : Word := hi ++ lo

/-- `zext_16(b)` (R10). -/
abbrev zext16 (b : Byte) : Word := b.setWidth 16

/-- `sext_16(b)`: bit 7 copied into bits 15..8 (R10). -/
abbrev sext16 (b : Byte) : Word := b.signExtend 16

end Sys2Proof
end

