-- ==== Sys2Proof/Config.lean ====
section
/-!
DEFINITION. What an implementation fixes (spec/00_scope.md R7) and the free values the spec leaves open.
The configuration of the core is plain data that no step writes; the host driver's is apart from it.
The free values are opaque constants: nothing can evaluate them.
-/

namespace Sys2Proof

/-- One entry of the parameters `UNDEF_LEN[op]` and `UNDEF_CYC[op]` (R103, R104) that differs from R104's default. -/
structure UndefEntry where
  opcode : Byte
  len    : Nat
  cycles : Nat
  deriving DecidableEq, Repr

/-- The core's configuration (R7, R49) less the program image, which stands beside it in State.
`undef` lists only the undefined opcode values whose length or cycles differ from the defaults of R104. -/
structure Config where
  /-- `PRG_BANKS`, the number of 16 KiB program banks (R7, R59). -/
  prgBanks      : Nat
  /-- `UNMAPPED_VALUE`, the byte a read of 0x4018–0x5FFF returns (R57). -/
  unmappedValue : Byte
  /-- `SENTINEL`, the harness's halt address, if it has one (R333). -/
  sentinel      : Option Word
  /-- `UNDEF_LEN` and `UNDEF_CYC` where they differ from R104. -/
  undef         : List UndefEntry
  deriving DecidableEq, Repr

/-- A draw (R13): the n-th byte that the environment answers to a read of a peripheral window
(R53, R54, R55, R56). No law holds of it. Log entry 3. -/
opaque Config.draw : Nat → Byte

/-- The constant `UNMAPPED_VALUE` of the machine State.reset describes: OPEN in R7. Log entry 4. -/
opaque Config.unmappedValueAtReset : Byte

/-- What `Peek` answers at an address of a peripheral window (R79, D29): one byte per address, under no law. Log entry 5. -/
opaque Config.peekDevice : Word → Byte

/-- The value of `Operand(NONE)`, which R141 says never occurs: no meaning asks for it. Log entry 6. -/
opaque Config.noOperand : Byte

/-- The trace's "PPU-derived cycle counter field" (R344), whose formula is not in the source (R346, D30). Log entry 7. -/
opaque Config.ppuField : Nat → Nat × Nat

/-- The audio unit's clock ratio, OPEN in R349: once a step, once a cycle, or `num` times for every `den` cycles. -/
inductive ApuRatio where
  | perStep
  | perCycle
  | ratio (num den : Nat)
  deriving DecidableEq, Repr

/-- What the time-budget driver does with the last step's overshoot (R351, D33). -/
inductive Overshoot where
  | carry
  | drop
  deriving DecidableEq, Repr

/-- The rest of the cartridge image (R8): what the core's bus does not reach and the pixel unit is given. It is immutable
after load: no definition writes one. The tags' types are the model's choice: DESIGN CHOICE, safe (log entry 20). -/
structure PixelImage where
  /-- The pattern/graphics storage. -/
  pattern   : List Byte
  /-- The mapper-type tag. -/
  mapper    : Nat
  /-- The mirroring-mode tag. -/
  mirroring : Nat
  deriving DecidableEq, Repr

/-- The host driver's configuration (R7), and the part of the cartridge image that it hands to the pixel unit (R8): nothing
in it reaches a step (R349). -/
structure DriverConfig where
  /-- The pattern storage and the two tags, for the pixel unit (R8). -/
  image          : PixelImage
  /-- `PPU_RATIO`, pixel-unit steps per core cycle (R349). -/
  ppuRatio       : Nat := 3
  /-- `APU_RATIO` (R349). -/
  apuRatio       : ApuRatio
  /-- `PERIPH_WRITABLE`, the addresses a peripheral step may write (R72). -/
  periphWritable : List Word := []
  /-- `CORE_HZ` (R351, D41). R7 leaves open what numbers it ranges over: whole hertz here, DESIGN CHOICE (log entry 17). -/
  coreHz         : Nat
  /-- `OVERSHOOT` (R351, D33). -/
  overshoot      : Overshoot
  deriving DecidableEq, Repr

end Sys2Proof
end

