-- ==== Sys2Proof/Syntax.lean ====
section
/-!
DEFINITION. Instructions as syntax: one constructor per row of spec/opcode_table.json (256 opcode values),
the 13 addressing modes (spec/30_encoding.md R91) and the mnemonics of R99.
A constructor carries the operand bytes that the instruction reads: an 8-bit operand as a Byte, a 16-bit operand
`b2:b1` as a Word. The 29 undefined opcode values (R312) and NOP 0x80 (R292) read no operand byte and carry none.
-/

namespace Sys2Proof

/-- The 13 addressing modes (R91). -/
inductive Mode where
  | implied | accumulator | immediate | zeroPage | zeroPageX | zeroPageY | relative
  | indexedIndirect | indirectIndexed | absolute | absoluteX | absoluteY | indirect
  deriving DecidableEq, Repr

/-- An addressing mode with the operand bytes it has in one instruction (R91, R93).
`immediateSkip` is the immediate mode of NOP 0x80, whose operand byte is skipped and never read (R292). -/
inductive AddrMode where
  | implied
  | accumulator
  | immediate (imm : Byte)
  | immediateSkip
  | zeroPage (zp : Byte)
  | zeroPageX (zp : Byte)
  | zeroPageY (zp : Byte)
  | relative (off : Byte)
  | indexedIndirect (zp : Byte)
  | indirectIndexed (zp : Byte)
  | absolute (addr : Word)
  | absoluteX (addr : Word)
  | absoluteY (addr : Word)
  | indirect (addr : Word)
  deriving DecidableEq, Repr

/-- Which of the 13 modes an operand form is (R91). -/
def AddrMode.kind : AddrMode → Mode
  | .implied => .implied
  | .accumulator => .accumulator
  | .immediate _ => .immediate
  | .immediateSkip => .immediate
  | .zeroPage _ => .zeroPage
  | .zeroPageX _ => .zeroPageX
  | .zeroPageY _ => .zeroPageY
  | .relative _ => .relative
  | .indexedIndirect _ => .indexedIndirect
  | .indirectIndexed _ => .indirectIndexed
  | .absolute _ => .absolute
  | .absoluteX _ => .absoluteX
  | .absoluteY _ => .absoluteY
  | .indirect _ => .indirect

/-- The mnemonics of R99; `undefined` stands for the 29 undefined opcode values (R100). -/
inductive Mnemonic where
  | adc | and | asl | bcc | bcs | beq | bit | bmi | bne | bpl
  | brk | bvc | bvs | clc | cld | cli | clv | cmp | cpx | cpy
  | dcp | dec | dex | dey | eor | inc | inx | iny | isb | jmp
  | jsr | lax | lda | ldx | ldy | lsr | nop | ora | pha | php
  | pla | plp | rla | rol | ror | rra | rti | rts | sax | sbc
  | sec | sed | sei | slo | sre | sta | stx | sty | tax | tay
  | tsx | txa | txs | tya | undefined
  deriving DecidableEq, Repr

/-- The three classes of opcode value (R96). -/
inductive OpClass where
  | documented | undocumented | undefined
  deriving DecidableEq, Repr

/-- The instructions: one constructor per opcode value (R99): first those that carry an operand, then those that carry
none, each in opcode order. -/
inductive Instr where
  /-- 0x01 ORA (zp,X) (R187). -/
  | oraIndX (zp : Byte)
  /-- 0x03 SLO (zp,X) (R302). -/
  | sloIndX (zp : Byte)
  /-- 0x04 NOP zp (R293). -/
  | nopZp04 (zp : Byte)
  /-- 0x05 ORA zp (R187). -/
  | oraZp (zp : Byte)
  /-- 0x06 ASL zp (R222). -/
  | aslZp (zp : Byte)
  /-- 0x07 SLO zp (R302). -/
  | sloZp (zp : Byte)
  /-- 0x09 ORA # (R187). -/
  | oraImm (imm : Byte)
  /-- 0x0C NOP abs (R295). -/
  | nopAbs0C (addr : Word)
  /-- 0x0D ORA abs (R187). -/
  | oraAbs (addr : Word)
  /-- 0x0E ASL abs (R222). -/
  | aslAbs (addr : Word)
  /-- 0x0F SLO abs (R302). -/
  | sloAbs (addr : Word)
  /-- 0x10 BPL rel (R248). -/
  | bpl (off : Byte)
  /-- 0x11 ORA (zp),Y (R187). -/
  | oraIndY (zp : Byte)
  /-- 0x13 SLO (zp),Y (R302). -/
  | sloIndY (zp : Byte)
  /-- 0x14 NOP zp,X (R294). -/
  | nopZpX14 (zp : Byte)
  /-- 0x15 ORA zp,X (R187). -/
  | oraZpX (zp : Byte)
  /-- 0x16 ASL zp,X (R222). -/
  | aslZpX (zp : Byte)
  /-- 0x17 SLO zp,X (R302). -/
  | sloZpX (zp : Byte)
  /-- 0x19 ORA abs,Y (R187). -/
  | oraAbsY (addr : Word)
  /-- 0x1B SLO abs,Y (R302). -/
  | sloAbsY (addr : Word)
  /-- 0x1C NOP abs,X (R296). -/
  | nopAbsX1C (addr : Word)
  /-- 0x1D ORA abs,X (R187). -/
  | oraAbsX (addr : Word)
  /-- 0x1E ASL abs,X (R222). -/
  | aslAbsX (addr : Word)
  /-- 0x1F SLO abs,X (R302). -/
  | sloAbsX (addr : Word)
  /-- 0x20 JSR abs (R243). -/
  | jsrAbs (addr : Word)
  /-- 0x21 AND (zp,X) (R186). -/
  | andIndX (zp : Byte)
  /-- 0x23 RLA (zp,X) (R303). -/
  | rlaIndX (zp : Byte)
  /-- 0x24 BIT zp (R189). -/
  | bitZp (zp : Byte)
  /-- 0x25 AND zp (R186). -/
  | andZp (zp : Byte)
  /-- 0x26 ROL zp (R224). -/
  | rolZp (zp : Byte)
  /-- 0x27 RLA zp (R303). -/
  | rlaZp (zp : Byte)
  /-- 0x29 AND # (R186). -/
  | andImm (imm : Byte)
  /-- 0x2C BIT abs (R189). -/
  | bitAbs (addr : Word)
  /-- 0x2D AND abs (R186). -/
  | andAbs (addr : Word)
  /-- 0x2E ROL abs (R224). -/
  | rolAbs (addr : Word)
  /-- 0x2F RLA abs (R303). -/
  | rlaAbs (addr : Word)
  /-- 0x30 BMI rel (R249). -/
  | bmi (off : Byte)
  /-- 0x31 AND (zp),Y (R186). -/
  | andIndY (zp : Byte)
  /-- 0x33 RLA (zp),Y (R303). -/
  | rlaIndY (zp : Byte)
  /-- 0x34 NOP zp,X (R294). -/
  | nopZpX34 (zp : Byte)
  /-- 0x35 AND zp,X (R186). -/
  | andZpX (zp : Byte)
  /-- 0x36 ROL zp,X (R224). -/
  | rolZpX (zp : Byte)
  /-- 0x37 RLA zp,X (R303). -/
  | rlaZpX (zp : Byte)
  /-- 0x39 AND abs,Y (R186). -/
  | andAbsY (addr : Word)
  /-- 0x3B RLA abs,Y (R303). -/
  | rlaAbsY (addr : Word)
  /-- 0x3C NOP abs,X (R296). -/
  | nopAbsX3C (addr : Word)
  /-- 0x3D AND abs,X (R186). -/
  | andAbsX (addr : Word)
  /-- 0x3E ROL abs,X (R224). -/
  | rolAbsX (addr : Word)
  /-- 0x3F RLA abs,X (R303). -/
  | rlaAbsX (addr : Word)
  /-- 0x41 EOR (zp,X) (R188). -/
  | eorIndX (zp : Byte)
  /-- 0x43 SRE (zp,X) (R304). -/
  | sreIndX (zp : Byte)
  /-- 0x44 NOP zp (R293). -/
  | nopZp44 (zp : Byte)
  /-- 0x45 EOR zp (R188). -/
  | eorZp (zp : Byte)
  /-- 0x46 LSR zp (R223). -/
  | lsrZp (zp : Byte)
  /-- 0x47 SRE zp (R304). -/
  | sreZp (zp : Byte)
  /-- 0x49 EOR # (R188). -/
  | eorImm (imm : Byte)
  /-- 0x4C JMP abs (R242). -/
  | jmpAbs (addr : Word)
  /-- 0x4D EOR abs (R188). -/
  | eorAbs (addr : Word)
  /-- 0x4E LSR abs (R223). -/
  | lsrAbs (addr : Word)
  /-- 0x4F SRE abs (R304). -/
  | sreAbs (addr : Word)
  /-- 0x50 BVC rel (R250). -/
  | bvc (off : Byte)
  /-- 0x51 EOR (zp),Y (R188). -/
  | eorIndY (zp : Byte)
  /-- 0x53 SRE (zp),Y (R304). -/
  | sreIndY (zp : Byte)
  /-- 0x54 NOP zp,X (R294). -/
  | nopZpX54 (zp : Byte)
  /-- 0x55 EOR zp,X (R188). -/
  | eorZpX (zp : Byte)
  /-- 0x56 LSR zp,X (R223). -/
  | lsrZpX (zp : Byte)
  /-- 0x57 SRE zp,X (R304). -/
  | sreZpX (zp : Byte)
  /-- 0x59 EOR abs,Y (R188). -/
  | eorAbsY (addr : Word)
  /-- 0x5B SRE abs,Y (R304). -/
  | sreAbsY (addr : Word)
  /-- 0x5C NOP abs,X (R296). -/
  | nopAbsX5C (addr : Word)
  /-- 0x5D EOR abs,X (R188). -/
  | eorAbsX (addr : Word)
  /-- 0x5E LSR abs,X (R223). -/
  | lsrAbsX (addr : Word)
  /-- 0x5F SRE abs,X (R304). -/
  | sreAbsX (addr : Word)
  /-- 0x61 ADC (zp,X) (R184). -/
  | adcIndX (zp : Byte)
  /-- 0x63 RRA (zp,X) (R305). -/
  | rraIndX (zp : Byte)
  /-- 0x64 NOP zp (R293). -/
  | nopZp64 (zp : Byte)
  /-- 0x65 ADC zp (R184). -/
  | adcZp (zp : Byte)
  /-- 0x66 ROR zp (R225). -/
  | rorZp (zp : Byte)
  /-- 0x67 RRA zp (R305). -/
  | rraZp (zp : Byte)
  /-- 0x69 ADC # (R184). -/
  | adcImm (imm : Byte)
  /-- 0x6C JMP (ind) (R242). -/
  | jmpInd (addr : Word)
  /-- 0x6D ADC abs (R184). -/
  | adcAbs (addr : Word)
  /-- 0x6E ROR abs (R225). -/
  | rorAbs (addr : Word)
  /-- 0x6F RRA abs (R305). -/
  | rraAbs (addr : Word)
  /-- 0x70 BVS rel (R251). -/
  | bvs (off : Byte)
  /-- 0x71 ADC (zp),Y (R184). -/
  | adcIndY (zp : Byte)
  /-- 0x73 RRA (zp),Y (R305). -/
  | rraIndY (zp : Byte)
  /-- 0x74 NOP zp,X (R294). -/
  | nopZpX74 (zp : Byte)
  /-- 0x75 ADC zp,X (R184). -/
  | adcZpX (zp : Byte)
  /-- 0x76 ROR zp,X (R225). -/
  | rorZpX (zp : Byte)
  /-- 0x77 RRA zp,X (R305). -/
  | rraZpX (zp : Byte)
  /-- 0x79 ADC abs,Y (R184). -/
  | adcAbsY (addr : Word)
  /-- 0x7B RRA abs,Y (R305). -/
  | rraAbsY (addr : Word)
  /-- 0x7C NOP abs,X (R296). -/
  | nopAbsX7C (addr : Word)
  /-- 0x7D ADC abs,X (R184). -/
  | adcAbsX (addr : Word)
  /-- 0x7E ROR abs,X (R225). -/
  | rorAbsX (addr : Word)
  /-- 0x7F RRA abs,X (R305). -/
  | rraAbsX (addr : Word)
  /-- 0x81 STA (zp,X) (R153). -/
  | staIndX (zp : Byte)
  /-- 0x83 SAX (zp,X) (R298). -/
  | saxIndX (zp : Byte)
  /-- 0x84 STY zp (R155). -/
  | styZp (zp : Byte)
  /-- 0x85 STA zp (R153). -/
  | staZp (zp : Byte)
  /-- 0x86 STX zp (R154). -/
  | stxZp (zp : Byte)
  /-- 0x87 SAX zp (R298). -/
  | saxZp (zp : Byte)
  /-- 0x8C STY abs (R155). -/
  | styAbs (addr : Word)
  /-- 0x8D STA abs (R153). -/
  | staAbs (addr : Word)
  /-- 0x8E STX abs (R154). -/
  | stxAbs (addr : Word)
  /-- 0x8F SAX abs (R298). -/
  | saxAbs (addr : Word)
  /-- 0x90 BCC rel (R252). -/
  | bcc (off : Byte)
  /-- 0x91 STA (zp),Y (R153). -/
  | staIndY (zp : Byte)
  /-- 0x94 STY zp,X (R155). -/
  | styZpX (zp : Byte)
  /-- 0x95 STA zp,X (R153). -/
  | staZpX (zp : Byte)
  /-- 0x96 STX zp,Y (R154). -/
  | stxZpY (zp : Byte)
  /-- 0x97 SAX zp,Y (R298). -/
  | saxZpY (zp : Byte)
  /-- 0x99 STA abs,Y (R153). -/
  | staAbsY (addr : Word)
  /-- 0x9D STA abs,X (R153). -/
  | staAbsX (addr : Word)
  /-- 0xA0 LDY # (R152). -/
  | ldyImm (imm : Byte)
  /-- 0xA1 LDA (zp,X) (R150). -/
  | ldaIndX (zp : Byte)
  /-- 0xA2 LDX # (R151). -/
  | ldxImm (imm : Byte)
  /-- 0xA3 LAX (zp,X) (R297). -/
  | laxIndX (zp : Byte)
  /-- 0xA4 LDY zp (R152). -/
  | ldyZp (zp : Byte)
  /-- 0xA5 LDA zp (R150). -/
  | ldaZp (zp : Byte)
  /-- 0xA6 LDX zp (R151). -/
  | ldxZp (zp : Byte)
  /-- 0xA7 LAX zp (R297). -/
  | laxZp (zp : Byte)
  /-- 0xA9 LDA # (R150). -/
  | ldaImm (imm : Byte)
  /-- 0xAC LDY abs (R152). -/
  | ldyAbs (addr : Word)
  /-- 0xAD LDA abs (R150). -/
  | ldaAbs (addr : Word)
  /-- 0xAE LDX abs (R151). -/
  | ldxAbs (addr : Word)
  /-- 0xAF LAX abs (R297). -/
  | laxAbs (addr : Word)
  /-- 0xB0 BCS rel (R253). -/
  | bcs (off : Byte)
  /-- 0xB1 LDA (zp),Y (R150). -/
  | ldaIndY (zp : Byte)
  /-- 0xB3 LAX (zp),Y (R297). -/
  | laxIndY (zp : Byte)
  /-- 0xB4 LDY zp,X (R152). -/
  | ldyZpX (zp : Byte)
  /-- 0xB5 LDA zp,X (R150). -/
  | ldaZpX (zp : Byte)
  /-- 0xB6 LDX zp,Y (R151). -/
  | ldxZpY (zp : Byte)
  /-- 0xB7 LAX zp,Y (R297). -/
  | laxZpY (zp : Byte)
  /-- 0xB9 LDA abs,Y (R150). -/
  | ldaAbsY (addr : Word)
  /-- 0xBC LDY abs,X (R152). -/
  | ldyAbsX (addr : Word)
  /-- 0xBD LDA abs,X (R150). -/
  | ldaAbsX (addr : Word)
  /-- 0xBE LDX abs,Y (R151). -/
  | ldxAbsY (addr : Word)
  /-- 0xBF LAX abs,Y (R297). -/
  | laxAbsY (addr : Word)
  /-- 0xC0 CPY # (R192). -/
  | cpyImm (imm : Byte)
  /-- 0xC1 CMP (zp,X) (R190). -/
  | cmpIndX (zp : Byte)
  /-- 0xC3 DCP (zp,X) (R299). -/
  | dcpIndX (zp : Byte)
  /-- 0xC4 CPY zp (R192). -/
  | cpyZp (zp : Byte)
  /-- 0xC5 CMP zp (R190). -/
  | cmpZp (zp : Byte)
  /-- 0xC6 DEC zp (R194). -/
  | decZp (zp : Byte)
  /-- 0xC7 DCP zp (R299). -/
  | dcpZp (zp : Byte)
  /-- 0xC9 CMP # (R190). -/
  | cmpImm (imm : Byte)
  /-- 0xCC CPY abs (R192). -/
  | cpyAbs (addr : Word)
  /-- 0xCD CMP abs (R190). -/
  | cmpAbs (addr : Word)
  /-- 0xCE DEC abs (R194). -/
  | decAbs (addr : Word)
  /-- 0xCF DCP abs (R299). -/
  | dcpAbs (addr : Word)
  /-- 0xD0 BNE rel (R254). -/
  | bne (off : Byte)
  /-- 0xD1 CMP (zp),Y (R190). -/
  | cmpIndY (zp : Byte)
  /-- 0xD3 DCP (zp),Y (R299). -/
  | dcpIndY (zp : Byte)
  /-- 0xD4 NOP zp,X (R294). -/
  | nopZpXD4 (zp : Byte)
  /-- 0xD5 CMP zp,X (R190). -/
  | cmpZpX (zp : Byte)
  /-- 0xD6 DEC zp,X (R194). -/
  | decZpX (zp : Byte)
  /-- 0xD7 DCP zp,X (R299). -/
  | dcpZpX (zp : Byte)
  /-- 0xD9 CMP abs,Y (R190). -/
  | cmpAbsY (addr : Word)
  /-- 0xDB DCP abs,Y (R299). -/
  | dcpAbsY (addr : Word)
  /-- 0xDC NOP abs,X (R296). -/
  | nopAbsXDC (addr : Word)
  /-- 0xDD CMP abs,X (R190). -/
  | cmpAbsX (addr : Word)
  /-- 0xDE DEC abs,X (R194). -/
  | decAbsX (addr : Word)
  /-- 0xDF DCP abs,X (R299). -/
  | dcpAbsX (addr : Word)
  /-- 0xE0 CPX # (R191). -/
  | cpxImm (imm : Byte)
  /-- 0xE1 SBC (zp,X) (R185). -/
  | sbcIndX (zp : Byte)
  /-- 0xE3 ISB (zp,X) (R300). -/
  | isbIndX (zp : Byte)
  /-- 0xE4 CPX zp (R191). -/
  | cpxZp (zp : Byte)
  /-- 0xE5 SBC zp (R185). -/
  | sbcZp (zp : Byte)
  /-- 0xE6 INC zp (R193). -/
  | incZp (zp : Byte)
  /-- 0xE7 ISB zp (R300). -/
  | isbZp (zp : Byte)
  /-- 0xE9 SBC # (R185). -/
  | sbcImm (imm : Byte)
  /-- 0xEB SBC # (R301). -/
  | sbcImmEB (imm : Byte)
  /-- 0xEC CPX abs (R191). -/
  | cpxAbs (addr : Word)
  /-- 0xED SBC abs (R185). -/
  | sbcAbs (addr : Word)
  /-- 0xEE INC abs (R193). -/
  | incAbs (addr : Word)
  /-- 0xEF ISB abs (R300). -/
  | isbAbs (addr : Word)
  /-- 0xF0 BEQ rel (R255). -/
  | beq (off : Byte)
  /-- 0xF1 SBC (zp),Y (R185). -/
  | sbcIndY (zp : Byte)
  /-- 0xF3 ISB (zp),Y (R300). -/
  | isbIndY (zp : Byte)
  /-- 0xF4 NOP zp,X (R294). -/
  | nopZpXF4 (zp : Byte)
  /-- 0xF5 SBC zp,X (R185). -/
  | sbcZpX (zp : Byte)
  /-- 0xF6 INC zp,X (R193). -/
  | incZpX (zp : Byte)
  /-- 0xF7 ISB zp,X (R300). -/
  | isbZpX (zp : Byte)
  /-- 0xF9 SBC abs,Y (R185). -/
  | sbcAbsY (addr : Word)
  /-- 0xFB ISB abs,Y (R300). -/
  | isbAbsY (addr : Word)
  /-- 0xFC NOP abs,X (R296). -/
  | nopAbsXFC (addr : Word)
  /-- 0xFD SBC abs,X (R185). -/
  | sbcAbsX (addr : Word)
  /-- 0xFE INC abs,X (R193). -/
  | incAbsX (addr : Word)
  /-- 0xFF ISB abs,X (R300). -/
  | isbAbsX (addr : Word)
  /-- 0x00 BRK implied (R246). -/
  | brk
  /-- 0x02 undefined (conventionally JAM) implied (R312). -/
  | undef02
  /-- 0x08 PHP implied (R257). -/
  | php
  /-- 0x0A ASL A (R222). -/
  | aslAcc
  /-- 0x0B undefined (conventionally ANC) # (R312). -/
  | undef0B
  /-- 0x12 undefined (conventionally JAM) implied (R312). -/
  | undef12
  /-- 0x18 CLC implied (R260). -/
  | clc
  /-- 0x1A NOP implied (R291). -/
  | nop1A
  /-- 0x22 undefined (conventionally JAM) implied (R312). -/
  | undef22
  /-- 0x28 PLP implied (R259). -/
  | plp
  /-- 0x2A ROL A (R224). -/
  | rolAcc
  /-- 0x2B undefined (conventionally ANC) # (R312). -/
  | undef2B
  /-- 0x32 undefined (conventionally JAM) implied (R312). -/
  | undef32
  /-- 0x38 SEC implied (R261). -/
  | sec
  /-- 0x3A NOP implied (R291). -/
  | nop3A
  /-- 0x40 RTI implied (R245). -/
  | rti
  /-- 0x42 undefined (conventionally JAM) implied (R312). -/
  | undef42
  /-- 0x48 PHA implied (R256). -/
  | pha
  /-- 0x4A LSR A (R223). -/
  | lsrAcc
  /-- 0x4B undefined (conventionally ALR) # (R312). -/
  | undef4B
  /-- 0x52 undefined (conventionally JAM) implied (R312). -/
  | undef52
  /-- 0x58 CLI implied (R262). -/
  | cli
  /-- 0x5A NOP implied (R291). -/
  | nop5A
  /-- 0x60 RTS implied (R244). -/
  | rts
  /-- 0x62 undefined (conventionally JAM) implied (R312). -/
  | undef62
  /-- 0x68 PLA implied (R258). -/
  | pla
  /-- 0x6A ROR A (R225). -/
  | rorAcc
  /-- 0x6B undefined (conventionally ARR) # (R312). -/
  | undef6B
  /-- 0x72 undefined (conventionally JAM) implied (R312). -/
  | undef72
  /-- 0x78 SEI implied (R263). -/
  | sei
  /-- 0x7A NOP implied (R291). -/
  | nop7A
  /-- 0x80 NOP # (R292). -/
  | nopImm80
  /-- 0x82 undefined (conventionally NOP) # (R312). -/
  | undef82
  /-- 0x88 DEY implied (R198). -/
  | dey
  /-- 0x89 undefined (conventionally NOP) # (R312). -/
  | undef89
  /-- 0x8A TXA implied (R158). -/
  | txa
  /-- 0x8B undefined (conventionally XAA) # (R312). -/
  | undef8B
  /-- 0x92 undefined (conventionally JAM) implied (R312). -/
  | undef92
  /-- 0x93 undefined (conventionally AHX) (zp),Y (R312). -/
  | undef93
  /-- 0x98 TYA implied (R159). -/
  | tya
  /-- 0x9A TXS implied (R161). -/
  | txs
  /-- 0x9B undefined (conventionally TAS) abs,Y (R312). -/
  | undef9B
  /-- 0x9C undefined (conventionally SHY) abs,X (R312). -/
  | undef9C
  /-- 0x9E undefined (conventionally SHX) abs,Y (R312). -/
  | undef9E
  /-- 0x9F undefined (conventionally AHX) abs,Y (R312). -/
  | undef9F
  /-- 0xA8 TAY implied (R157). -/
  | tay
  /-- 0xAA TAX implied (R156). -/
  | tax
  /-- 0xAB undefined (conventionally LXA) # (R312). -/
  | undefAB
  /-- 0xB2 undefined (conventionally JAM) implied (R312). -/
  | undefB2
  /-- 0xB8 CLV implied (R264). -/
  | clv
  /-- 0xBA TSX implied (R160). -/
  | tsx
  /-- 0xBB undefined (conventionally LAS) abs,Y (R312). -/
  | undefBB
  /-- 0xC2 undefined (conventionally NOP) # (R312). -/
  | undefC2
  /-- 0xC8 INY implied (R196). -/
  | iny
  /-- 0xCA DEX implied (R197). -/
  | dex
  /-- 0xCB undefined (conventionally AXS) # (R312). -/
  | undefCB
  /-- 0xD2 undefined (conventionally JAM) implied (R312). -/
  | undefD2
  /-- 0xD8 CLD implied (R265). -/
  | cld
  /-- 0xDA NOP implied (R291). -/
  | nopDA
  /-- 0xE2 undefined (conventionally NOP) # (R312). -/
  | undefE2
  /-- 0xE8 INX implied (R195). -/
  | inx
  /-- 0xEA NOP implied (R267). -/
  | nop
  /-- 0xF2 undefined (conventionally JAM) implied (R312). -/
  | undefF2
  /-- 0xF8 SED implied (R266). -/
  | sed
  /-- 0xFA NOP implied (R291). -/
  | nopFA
  deriving DecidableEq, Repr

end Sys2Proof
end

