-- ==== Sys2Proof/WellFormed.lean ====
section
/-!
DEFINITION. Well-formed instructions and valid configurations.
An instruction's operands are whole bytes and words, which their types already say, and every opcode value and every
operand byte is legal (spec/30_encoding.md R90, R97, R101): so every term of Instr is well formed.
What the spec does check before a core exists is its configuration (D36, R103, R334): Config.valid.
-/

namespace Sys2Proof

/-- Every term of Instr is a legal instruction (R97, R101): no operand value is reserved. -/
def Instr.wf (_ : Instr) : Bool := true

/-- `UNDEF_LEN[op]` is 1..3 and `UNDEF_CYC[op]` at least 1 (R103). -/
def UndefEntry.valid (e : UndefEntry) : Bool :=
  decide (1 ≤ e.len) && decide (e.len ≤ 3) && decide (1 ≤ e.cycles)

/-- A core exists only for a valid configuration (D36, R334): at least one program bank, and the lengths and cycles of
the undefined opcode values in range (R103). The image's size is Memory.wf's part. -/
def Config.valid (c : Config) : Bool :=
  decide (1 ≤ c.prgBanks) && c.undef.all UndefEntry.valid

end Sys2Proof
end

