-- ==== Sys2Proof/Decode.lean ====
section
/-!
DEFINITION. The instruction descriptor table (spec/30_encoding.md R92, R95, R99), the decoder, total on any bytes
(R97), and after it the encoder. The opcode byte alone selects the instruction (R90), so decoding is a 256-entry list.
-/

namespace Sys2Proof

/-! ## The descriptor table -/

/-- The Instruction Descriptor (R92), with the opcode value and its class (R96). -/
structure Desc where
  opcode   : Byte
  mnemonic : Mnemonic
  cls      : OpClass
  mode     : Mode
  len      : Nat
  cycles   : Nat
  penalty  : Nat
  deriving DecidableEq, Repr

/-- The encoded length that an addressing mode gives (R98). -/
def Mode.len : Mode → Nat
  | .implied | .accumulator => 1
  | .immediate | .zeroPage | .zeroPageX | .zeroPageY | .relative | .indexedIndirect | .indirectIndexed => 2
  | .absolute | .absoluteX | .absoluteY | .indirect => 3

/-- The opcode map (R99): `DESC[op]` of every instruction. The length and cycles of an undefined value are the
defaults of R104, and its mode is the conventional one that R104 names. -/
def Instr.desc : Instr → Desc
  | .brk => ⟨0x00, .brk, .documented, .implied, 1, 7, 0⟩
  | .oraIndX _ => ⟨0x01, .ora, .documented, .indexedIndirect, 2, 6, 0⟩
  | .undef02 => ⟨0x02, .undefined, .undefined, .implied, 1, 2, 0⟩
  | .sloIndX _ => ⟨0x03, .slo, .undocumented, .indexedIndirect, 2, 8, 0⟩
  | .nopZp04 _ => ⟨0x04, .nop, .undocumented, .zeroPage, 2, 3, 0⟩
  | .oraZp _ => ⟨0x05, .ora, .documented, .zeroPage, 2, 3, 0⟩
  | .aslZp _ => ⟨0x06, .asl, .documented, .zeroPage, 2, 5, 0⟩
  | .sloZp _ => ⟨0x07, .slo, .undocumented, .zeroPage, 2, 5, 0⟩
  | .php => ⟨0x08, .php, .documented, .implied, 1, 3, 0⟩
  | .oraImm _ => ⟨0x09, .ora, .documented, .immediate, 2, 2, 0⟩
  | .aslAcc => ⟨0x0A, .asl, .documented, .accumulator, 1, 2, 0⟩
  | .undef0B => ⟨0x0B, .undefined, .undefined, .immediate, 2, 2, 0⟩
  | .nopAbs0C _ => ⟨0x0C, .nop, .undocumented, .absolute, 3, 4, 0⟩
  | .oraAbs _ => ⟨0x0D, .ora, .documented, .absolute, 3, 4, 0⟩
  | .aslAbs _ => ⟨0x0E, .asl, .documented, .absolute, 3, 6, 0⟩
  | .sloAbs _ => ⟨0x0F, .slo, .undocumented, .absolute, 3, 6, 0⟩
  | .bpl _ => ⟨0x10, .bpl, .documented, .relative, 2, 2, 0⟩
  | .oraIndY _ => ⟨0x11, .ora, .documented, .indirectIndexed, 2, 5, 1⟩
  | .undef12 => ⟨0x12, .undefined, .undefined, .implied, 1, 2, 0⟩
  | .sloIndY _ => ⟨0x13, .slo, .undocumented, .indirectIndexed, 2, 8, 0⟩
  | .nopZpX14 _ => ⟨0x14, .nop, .undocumented, .zeroPageX, 2, 4, 0⟩
  | .oraZpX _ => ⟨0x15, .ora, .documented, .zeroPageX, 2, 4, 0⟩
  | .aslZpX _ => ⟨0x16, .asl, .documented, .zeroPageX, 2, 6, 0⟩
  | .sloZpX _ => ⟨0x17, .slo, .undocumented, .zeroPageX, 2, 6, 0⟩
  | .clc => ⟨0x18, .clc, .documented, .implied, 1, 2, 0⟩
  | .oraAbsY _ => ⟨0x19, .ora, .documented, .absoluteY, 3, 4, 1⟩
  | .nop1A => ⟨0x1A, .nop, .undocumented, .implied, 1, 2, 0⟩
  | .sloAbsY _ => ⟨0x1B, .slo, .undocumented, .absoluteY, 3, 7, 0⟩
  | .nopAbsX1C _ => ⟨0x1C, .nop, .undocumented, .absoluteX, 3, 4, 1⟩
  | .oraAbsX _ => ⟨0x1D, .ora, .documented, .absoluteX, 3, 4, 1⟩
  | .aslAbsX _ => ⟨0x1E, .asl, .documented, .absoluteX, 3, 7, 0⟩
  | .sloAbsX _ => ⟨0x1F, .slo, .undocumented, .absoluteX, 3, 7, 0⟩
  | .jsrAbs _ => ⟨0x20, .jsr, .documented, .absolute, 3, 6, 0⟩
  | .andIndX _ => ⟨0x21, .and, .documented, .indexedIndirect, 2, 6, 0⟩
  | .undef22 => ⟨0x22, .undefined, .undefined, .implied, 1, 2, 0⟩
  | .rlaIndX _ => ⟨0x23, .rla, .undocumented, .indexedIndirect, 2, 8, 0⟩
  | .bitZp _ => ⟨0x24, .bit, .documented, .zeroPage, 2, 3, 0⟩
  | .andZp _ => ⟨0x25, .and, .documented, .zeroPage, 2, 3, 0⟩
  | .rolZp _ => ⟨0x26, .rol, .documented, .zeroPage, 2, 5, 0⟩
  | .rlaZp _ => ⟨0x27, .rla, .undocumented, .zeroPage, 2, 5, 0⟩
  | .plp => ⟨0x28, .plp, .documented, .implied, 1, 4, 0⟩
  | .andImm _ => ⟨0x29, .and, .documented, .immediate, 2, 2, 0⟩
  | .rolAcc => ⟨0x2A, .rol, .documented, .accumulator, 1, 2, 0⟩
  | .undef2B => ⟨0x2B, .undefined, .undefined, .immediate, 2, 2, 0⟩
  | .bitAbs _ => ⟨0x2C, .bit, .documented, .absolute, 3, 4, 0⟩
  | .andAbs _ => ⟨0x2D, .and, .documented, .absolute, 3, 4, 0⟩
  | .rolAbs _ => ⟨0x2E, .rol, .documented, .absolute, 3, 6, 0⟩
  | .rlaAbs _ => ⟨0x2F, .rla, .undocumented, .absolute, 3, 6, 0⟩
  | .bmi _ => ⟨0x30, .bmi, .documented, .relative, 2, 2, 0⟩
  | .andIndY _ => ⟨0x31, .and, .documented, .indirectIndexed, 2, 5, 1⟩
  | .undef32 => ⟨0x32, .undefined, .undefined, .implied, 1, 2, 0⟩
  | .rlaIndY _ => ⟨0x33, .rla, .undocumented, .indirectIndexed, 2, 8, 0⟩
  | .nopZpX34 _ => ⟨0x34, .nop, .undocumented, .zeroPageX, 2, 4, 0⟩
  | .andZpX _ => ⟨0x35, .and, .documented, .zeroPageX, 2, 4, 0⟩
  | .rolZpX _ => ⟨0x36, .rol, .documented, .zeroPageX, 2, 6, 0⟩
  | .rlaZpX _ => ⟨0x37, .rla, .undocumented, .zeroPageX, 2, 6, 0⟩
  | .sec => ⟨0x38, .sec, .documented, .implied, 1, 2, 0⟩
  | .andAbsY _ => ⟨0x39, .and, .documented, .absoluteY, 3, 4, 1⟩
  | .nop3A => ⟨0x3A, .nop, .undocumented, .implied, 1, 2, 0⟩
  | .rlaAbsY _ => ⟨0x3B, .rla, .undocumented, .absoluteY, 3, 7, 0⟩
  | .nopAbsX3C _ => ⟨0x3C, .nop, .undocumented, .absoluteX, 3, 4, 1⟩
  | .andAbsX _ => ⟨0x3D, .and, .documented, .absoluteX, 3, 4, 1⟩
  | .rolAbsX _ => ⟨0x3E, .rol, .documented, .absoluteX, 3, 7, 0⟩
  | .rlaAbsX _ => ⟨0x3F, .rla, .undocumented, .absoluteX, 3, 7, 0⟩
  | .rti => ⟨0x40, .rti, .documented, .implied, 1, 6, 0⟩
  | .eorIndX _ => ⟨0x41, .eor, .documented, .indexedIndirect, 2, 6, 0⟩
  | .undef42 => ⟨0x42, .undefined, .undefined, .implied, 1, 2, 0⟩
  | .sreIndX _ => ⟨0x43, .sre, .undocumented, .indexedIndirect, 2, 8, 0⟩
  | .nopZp44 _ => ⟨0x44, .nop, .undocumented, .zeroPage, 2, 3, 0⟩
  | .eorZp _ => ⟨0x45, .eor, .documented, .zeroPage, 2, 3, 0⟩
  | .lsrZp _ => ⟨0x46, .lsr, .documented, .zeroPage, 2, 5, 0⟩
  | .sreZp _ => ⟨0x47, .sre, .undocumented, .zeroPage, 2, 5, 0⟩
  | .pha => ⟨0x48, .pha, .documented, .implied, 1, 3, 0⟩
  | .eorImm _ => ⟨0x49, .eor, .documented, .immediate, 2, 2, 0⟩
  | .lsrAcc => ⟨0x4A, .lsr, .documented, .accumulator, 1, 2, 0⟩
  | .undef4B => ⟨0x4B, .undefined, .undefined, .immediate, 2, 2, 0⟩
  | .jmpAbs _ => ⟨0x4C, .jmp, .documented, .absolute, 3, 3, 0⟩
  | .eorAbs _ => ⟨0x4D, .eor, .documented, .absolute, 3, 4, 0⟩
  | .lsrAbs _ => ⟨0x4E, .lsr, .documented, .absolute, 3, 6, 0⟩
  | .sreAbs _ => ⟨0x4F, .sre, .undocumented, .absolute, 3, 6, 0⟩
  | .bvc _ => ⟨0x50, .bvc, .documented, .relative, 2, 2, 0⟩
  | .eorIndY _ => ⟨0x51, .eor, .documented, .indirectIndexed, 2, 5, 1⟩
  | .undef52 => ⟨0x52, .undefined, .undefined, .implied, 1, 2, 0⟩
  | .sreIndY _ => ⟨0x53, .sre, .undocumented, .indirectIndexed, 2, 8, 0⟩
  | .nopZpX54 _ => ⟨0x54, .nop, .undocumented, .zeroPageX, 2, 4, 0⟩
  | .eorZpX _ => ⟨0x55, .eor, .documented, .zeroPageX, 2, 4, 0⟩
  | .lsrZpX _ => ⟨0x56, .lsr, .documented, .zeroPageX, 2, 6, 0⟩
  | .sreZpX _ => ⟨0x57, .sre, .undocumented, .zeroPageX, 2, 6, 0⟩
  | .cli => ⟨0x58, .cli, .documented, .implied, 1, 2, 0⟩
  | .eorAbsY _ => ⟨0x59, .eor, .documented, .absoluteY, 3, 4, 1⟩
  | .nop5A => ⟨0x5A, .nop, .undocumented, .implied, 1, 2, 0⟩
  | .sreAbsY _ => ⟨0x5B, .sre, .undocumented, .absoluteY, 3, 7, 0⟩
  | .nopAbsX5C _ => ⟨0x5C, .nop, .undocumented, .absoluteX, 3, 4, 1⟩
  | .eorAbsX _ => ⟨0x5D, .eor, .documented, .absoluteX, 3, 4, 1⟩
  | .lsrAbsX _ => ⟨0x5E, .lsr, .documented, .absoluteX, 3, 7, 0⟩
  | .sreAbsX _ => ⟨0x5F, .sre, .undocumented, .absoluteX, 3, 7, 0⟩
  | .rts => ⟨0x60, .rts, .documented, .implied, 1, 6, 0⟩
  | .adcIndX _ => ⟨0x61, .adc, .documented, .indexedIndirect, 2, 6, 0⟩
  | .undef62 => ⟨0x62, .undefined, .undefined, .implied, 1, 2, 0⟩
  | .rraIndX _ => ⟨0x63, .rra, .undocumented, .indexedIndirect, 2, 8, 0⟩
  | .nopZp64 _ => ⟨0x64, .nop, .undocumented, .zeroPage, 2, 3, 0⟩
  | .adcZp _ => ⟨0x65, .adc, .documented, .zeroPage, 2, 3, 0⟩
  | .rorZp _ => ⟨0x66, .ror, .documented, .zeroPage, 2, 5, 0⟩
  | .rraZp _ => ⟨0x67, .rra, .undocumented, .zeroPage, 2, 5, 0⟩
  | .pla => ⟨0x68, .pla, .documented, .implied, 1, 4, 0⟩
  | .adcImm _ => ⟨0x69, .adc, .documented, .immediate, 2, 2, 0⟩
  | .rorAcc => ⟨0x6A, .ror, .documented, .accumulator, 1, 2, 0⟩
  | .undef6B => ⟨0x6B, .undefined, .undefined, .immediate, 2, 2, 0⟩
  | .jmpInd _ => ⟨0x6C, .jmp, .documented, .indirect, 3, 5, 0⟩
  | .adcAbs _ => ⟨0x6D, .adc, .documented, .absolute, 3, 4, 0⟩
  | .rorAbs _ => ⟨0x6E, .ror, .documented, .absolute, 3, 6, 0⟩
  | .rraAbs _ => ⟨0x6F, .rra, .undocumented, .absolute, 3, 6, 0⟩
  | .bvs _ => ⟨0x70, .bvs, .documented, .relative, 2, 2, 0⟩
  | .adcIndY _ => ⟨0x71, .adc, .documented, .indirectIndexed, 2, 5, 1⟩
  | .undef72 => ⟨0x72, .undefined, .undefined, .implied, 1, 2, 0⟩
  | .rraIndY _ => ⟨0x73, .rra, .undocumented, .indirectIndexed, 2, 8, 0⟩
  | .nopZpX74 _ => ⟨0x74, .nop, .undocumented, .zeroPageX, 2, 4, 0⟩
  | .adcZpX _ => ⟨0x75, .adc, .documented, .zeroPageX, 2, 4, 0⟩
  | .rorZpX _ => ⟨0x76, .ror, .documented, .zeroPageX, 2, 6, 0⟩
  | .rraZpX _ => ⟨0x77, .rra, .undocumented, .zeroPageX, 2, 6, 0⟩
  | .sei => ⟨0x78, .sei, .documented, .implied, 1, 2, 0⟩
  | .adcAbsY _ => ⟨0x79, .adc, .documented, .absoluteY, 3, 4, 1⟩
  | .nop7A => ⟨0x7A, .nop, .undocumented, .implied, 1, 2, 0⟩
  | .rraAbsY _ => ⟨0x7B, .rra, .undocumented, .absoluteY, 3, 7, 0⟩
  | .nopAbsX7C _ => ⟨0x7C, .nop, .undocumented, .absoluteX, 3, 4, 1⟩
  | .adcAbsX _ => ⟨0x7D, .adc, .documented, .absoluteX, 3, 4, 1⟩
  | .rorAbsX _ => ⟨0x7E, .ror, .documented, .absoluteX, 3, 7, 0⟩
  | .rraAbsX _ => ⟨0x7F, .rra, .undocumented, .absoluteX, 3, 7, 0⟩
  | .nopImm80 => ⟨0x80, .nop, .undocumented, .immediate, 2, 2, 0⟩
  | .staIndX _ => ⟨0x81, .sta, .documented, .indexedIndirect, 2, 6, 0⟩
  | .undef82 => ⟨0x82, .undefined, .undefined, .immediate, 2, 2, 0⟩
  | .saxIndX _ => ⟨0x83, .sax, .undocumented, .indexedIndirect, 2, 6, 0⟩
  | .styZp _ => ⟨0x84, .sty, .documented, .zeroPage, 2, 3, 0⟩
  | .staZp _ => ⟨0x85, .sta, .documented, .zeroPage, 2, 3, 0⟩
  | .stxZp _ => ⟨0x86, .stx, .documented, .zeroPage, 2, 3, 0⟩
  | .saxZp _ => ⟨0x87, .sax, .undocumented, .zeroPage, 2, 3, 0⟩
  | .dey => ⟨0x88, .dey, .documented, .implied, 1, 2, 0⟩
  | .undef89 => ⟨0x89, .undefined, .undefined, .immediate, 2, 2, 0⟩
  | .txa => ⟨0x8A, .txa, .documented, .implied, 1, 2, 0⟩
  | .undef8B => ⟨0x8B, .undefined, .undefined, .immediate, 2, 2, 0⟩
  | .styAbs _ => ⟨0x8C, .sty, .documented, .absolute, 3, 4, 0⟩
  | .staAbs _ => ⟨0x8D, .sta, .documented, .absolute, 3, 4, 0⟩
  | .stxAbs _ => ⟨0x8E, .stx, .documented, .absolute, 3, 4, 0⟩
  | .saxAbs _ => ⟨0x8F, .sax, .undocumented, .absolute, 3, 4, 0⟩
  | .bcc _ => ⟨0x90, .bcc, .documented, .relative, 2, 2, 0⟩
  | .staIndY _ => ⟨0x91, .sta, .documented, .indirectIndexed, 2, 6, 0⟩
  | .undef92 => ⟨0x92, .undefined, .undefined, .implied, 1, 2, 0⟩
  | .undef93 => ⟨0x93, .undefined, .undefined, .indirectIndexed, 2, 6, 0⟩
  | .styZpX _ => ⟨0x94, .sty, .documented, .zeroPageX, 2, 4, 0⟩
  | .staZpX _ => ⟨0x95, .sta, .documented, .zeroPageX, 2, 4, 0⟩
  | .stxZpY _ => ⟨0x96, .stx, .documented, .zeroPageY, 2, 4, 0⟩
  | .saxZpY _ => ⟨0x97, .sax, .undocumented, .zeroPageY, 2, 4, 0⟩
  | .tya => ⟨0x98, .tya, .documented, .implied, 1, 2, 0⟩
  | .staAbsY _ => ⟨0x99, .sta, .documented, .absoluteY, 3, 5, 0⟩
  | .txs => ⟨0x9A, .txs, .documented, .implied, 1, 2, 0⟩
  | .undef9B => ⟨0x9B, .undefined, .undefined, .absoluteY, 3, 5, 0⟩
  | .undef9C => ⟨0x9C, .undefined, .undefined, .absoluteX, 3, 5, 0⟩
  | .staAbsX _ => ⟨0x9D, .sta, .documented, .absoluteX, 3, 5, 0⟩
  | .undef9E => ⟨0x9E, .undefined, .undefined, .absoluteY, 3, 5, 0⟩
  | .undef9F => ⟨0x9F, .undefined, .undefined, .absoluteY, 3, 5, 0⟩
  | .ldyImm _ => ⟨0xA0, .ldy, .documented, .immediate, 2, 2, 0⟩
  | .ldaIndX _ => ⟨0xA1, .lda, .documented, .indexedIndirect, 2, 6, 0⟩
  | .ldxImm _ => ⟨0xA2, .ldx, .documented, .immediate, 2, 2, 0⟩
  | .laxIndX _ => ⟨0xA3, .lax, .undocumented, .indexedIndirect, 2, 6, 0⟩
  | .ldyZp _ => ⟨0xA4, .ldy, .documented, .zeroPage, 2, 3, 0⟩
  | .ldaZp _ => ⟨0xA5, .lda, .documented, .zeroPage, 2, 3, 0⟩
  | .ldxZp _ => ⟨0xA6, .ldx, .documented, .zeroPage, 2, 3, 0⟩
  | .laxZp _ => ⟨0xA7, .lax, .undocumented, .zeroPage, 2, 3, 0⟩
  | .tay => ⟨0xA8, .tay, .documented, .implied, 1, 2, 0⟩
  | .ldaImm _ => ⟨0xA9, .lda, .documented, .immediate, 2, 2, 0⟩
  | .tax => ⟨0xAA, .tax, .documented, .implied, 1, 2, 0⟩
  | .undefAB => ⟨0xAB, .undefined, .undefined, .immediate, 2, 2, 0⟩
  | .ldyAbs _ => ⟨0xAC, .ldy, .documented, .absolute, 3, 4, 0⟩
  | .ldaAbs _ => ⟨0xAD, .lda, .documented, .absolute, 3, 4, 0⟩
  | .ldxAbs _ => ⟨0xAE, .ldx, .documented, .absolute, 3, 4, 0⟩
  | .laxAbs _ => ⟨0xAF, .lax, .undocumented, .absolute, 3, 4, 0⟩
  | .bcs _ => ⟨0xB0, .bcs, .documented, .relative, 2, 2, 0⟩
  | .ldaIndY _ => ⟨0xB1, .lda, .documented, .indirectIndexed, 2, 5, 1⟩
  | .undefB2 => ⟨0xB2, .undefined, .undefined, .implied, 1, 2, 0⟩
  | .laxIndY _ => ⟨0xB3, .lax, .undocumented, .indirectIndexed, 2, 5, 1⟩
  | .ldyZpX _ => ⟨0xB4, .ldy, .documented, .zeroPageX, 2, 4, 0⟩
  | .ldaZpX _ => ⟨0xB5, .lda, .documented, .zeroPageX, 2, 4, 0⟩
  | .ldxZpY _ => ⟨0xB6, .ldx, .documented, .zeroPageY, 2, 4, 0⟩
  | .laxZpY _ => ⟨0xB7, .lax, .undocumented, .zeroPageY, 2, 4, 0⟩
  | .clv => ⟨0xB8, .clv, .documented, .implied, 1, 2, 0⟩
  | .ldaAbsY _ => ⟨0xB9, .lda, .documented, .absoluteY, 3, 4, 1⟩
  | .tsx => ⟨0xBA, .tsx, .documented, .implied, 1, 2, 0⟩
  | .undefBB => ⟨0xBB, .undefined, .undefined, .absoluteY, 3, 4, 0⟩
  | .ldyAbsX _ => ⟨0xBC, .ldy, .documented, .absoluteX, 3, 4, 1⟩
  | .ldaAbsX _ => ⟨0xBD, .lda, .documented, .absoluteX, 3, 4, 1⟩
  | .ldxAbsY _ => ⟨0xBE, .ldx, .documented, .absoluteY, 3, 4, 1⟩
  | .laxAbsY _ => ⟨0xBF, .lax, .undocumented, .absoluteY, 3, 4, 1⟩
  | .cpyImm _ => ⟨0xC0, .cpy, .documented, .immediate, 2, 2, 0⟩
  | .cmpIndX _ => ⟨0xC1, .cmp, .documented, .indexedIndirect, 2, 6, 0⟩
  | .undefC2 => ⟨0xC2, .undefined, .undefined, .immediate, 2, 2, 0⟩
  | .dcpIndX _ => ⟨0xC3, .dcp, .undocumented, .indexedIndirect, 2, 8, 0⟩
  | .cpyZp _ => ⟨0xC4, .cpy, .documented, .zeroPage, 2, 3, 0⟩
  | .cmpZp _ => ⟨0xC5, .cmp, .documented, .zeroPage, 2, 3, 0⟩
  | .decZp _ => ⟨0xC6, .dec, .documented, .zeroPage, 2, 5, 0⟩
  | .dcpZp _ => ⟨0xC7, .dcp, .undocumented, .zeroPage, 2, 5, 0⟩
  | .iny => ⟨0xC8, .iny, .documented, .implied, 1, 2, 0⟩
  | .cmpImm _ => ⟨0xC9, .cmp, .documented, .immediate, 2, 2, 0⟩
  | .dex => ⟨0xCA, .dex, .documented, .implied, 1, 2, 0⟩
  | .undefCB => ⟨0xCB, .undefined, .undefined, .immediate, 2, 2, 0⟩
  | .cpyAbs _ => ⟨0xCC, .cpy, .documented, .absolute, 3, 4, 0⟩
  | .cmpAbs _ => ⟨0xCD, .cmp, .documented, .absolute, 3, 4, 0⟩
  | .decAbs _ => ⟨0xCE, .dec, .documented, .absolute, 3, 6, 0⟩
  | .dcpAbs _ => ⟨0xCF, .dcp, .undocumented, .absolute, 3, 6, 0⟩
  | .bne _ => ⟨0xD0, .bne, .documented, .relative, 2, 2, 0⟩
  | .cmpIndY _ => ⟨0xD1, .cmp, .documented, .indirectIndexed, 2, 5, 1⟩
  | .undefD2 => ⟨0xD2, .undefined, .undefined, .implied, 1, 2, 0⟩
  | .dcpIndY _ => ⟨0xD3, .dcp, .undocumented, .indirectIndexed, 2, 8, 0⟩
  | .nopZpXD4 _ => ⟨0xD4, .nop, .undocumented, .zeroPageX, 2, 4, 0⟩
  | .cmpZpX _ => ⟨0xD5, .cmp, .documented, .zeroPageX, 2, 4, 0⟩
  | .decZpX _ => ⟨0xD6, .dec, .documented, .zeroPageX, 2, 6, 0⟩
  | .dcpZpX _ => ⟨0xD7, .dcp, .undocumented, .zeroPageX, 2, 6, 0⟩
  | .cld => ⟨0xD8, .cld, .documented, .implied, 1, 2, 0⟩
  | .cmpAbsY _ => ⟨0xD9, .cmp, .documented, .absoluteY, 3, 4, 1⟩
  | .nopDA => ⟨0xDA, .nop, .undocumented, .implied, 1, 2, 0⟩
  | .dcpAbsY _ => ⟨0xDB, .dcp, .undocumented, .absoluteY, 3, 7, 0⟩
  | .nopAbsXDC _ => ⟨0xDC, .nop, .undocumented, .absoluteX, 3, 4, 1⟩
  | .cmpAbsX _ => ⟨0xDD, .cmp, .documented, .absoluteX, 3, 4, 1⟩
  | .decAbsX _ => ⟨0xDE, .dec, .documented, .absoluteX, 3, 7, 0⟩
  | .dcpAbsX _ => ⟨0xDF, .dcp, .undocumented, .absoluteX, 3, 7, 0⟩
  | .cpxImm _ => ⟨0xE0, .cpx, .documented, .immediate, 2, 2, 0⟩
  | .sbcIndX _ => ⟨0xE1, .sbc, .documented, .indexedIndirect, 2, 6, 0⟩
  | .undefE2 => ⟨0xE2, .undefined, .undefined, .immediate, 2, 2, 0⟩
  | .isbIndX _ => ⟨0xE3, .isb, .undocumented, .indexedIndirect, 2, 8, 0⟩
  | .cpxZp _ => ⟨0xE4, .cpx, .documented, .zeroPage, 2, 3, 0⟩
  | .sbcZp _ => ⟨0xE5, .sbc, .documented, .zeroPage, 2, 3, 0⟩
  | .incZp _ => ⟨0xE6, .inc, .documented, .zeroPage, 2, 5, 0⟩
  | .isbZp _ => ⟨0xE7, .isb, .undocumented, .zeroPage, 2, 5, 0⟩
  | .inx => ⟨0xE8, .inx, .documented, .implied, 1, 2, 0⟩
  | .sbcImm _ => ⟨0xE9, .sbc, .documented, .immediate, 2, 2, 0⟩
  | .nop => ⟨0xEA, .nop, .documented, .implied, 1, 2, 0⟩
  | .sbcImmEB _ => ⟨0xEB, .sbc, .undocumented, .immediate, 2, 2, 0⟩
  | .cpxAbs _ => ⟨0xEC, .cpx, .documented, .absolute, 3, 4, 0⟩
  | .sbcAbs _ => ⟨0xED, .sbc, .documented, .absolute, 3, 4, 0⟩
  | .incAbs _ => ⟨0xEE, .inc, .documented, .absolute, 3, 6, 0⟩
  | .isbAbs _ => ⟨0xEF, .isb, .undocumented, .absolute, 3, 6, 0⟩
  | .beq _ => ⟨0xF0, .beq, .documented, .relative, 2, 2, 0⟩
  | .sbcIndY _ => ⟨0xF1, .sbc, .documented, .indirectIndexed, 2, 5, 1⟩
  | .undefF2 => ⟨0xF2, .undefined, .undefined, .implied, 1, 2, 0⟩
  | .isbIndY _ => ⟨0xF3, .isb, .undocumented, .indirectIndexed, 2, 8, 0⟩
  | .nopZpXF4 _ => ⟨0xF4, .nop, .undocumented, .zeroPageX, 2, 4, 0⟩
  | .sbcZpX _ => ⟨0xF5, .sbc, .documented, .zeroPageX, 2, 4, 0⟩
  | .incZpX _ => ⟨0xF6, .inc, .documented, .zeroPageX, 2, 6, 0⟩
  | .isbZpX _ => ⟨0xF7, .isb, .undocumented, .zeroPageX, 2, 6, 0⟩
  | .sed => ⟨0xF8, .sed, .documented, .implied, 1, 2, 0⟩
  | .sbcAbsY _ => ⟨0xF9, .sbc, .documented, .absoluteY, 3, 4, 1⟩
  | .nopFA => ⟨0xFA, .nop, .undocumented, .implied, 1, 2, 0⟩
  | .isbAbsY _ => ⟨0xFB, .isb, .undocumented, .absoluteY, 3, 7, 0⟩
  | .nopAbsXFC _ => ⟨0xFC, .nop, .undocumented, .absoluteX, 3, 4, 1⟩
  | .sbcAbsX _ => ⟨0xFD, .sbc, .documented, .absoluteX, 3, 4, 1⟩
  | .incAbsX _ => ⟨0xFE, .inc, .documented, .absoluteX, 3, 7, 0⟩
  | .isbAbsX _ => ⟨0xFF, .isb, .undocumented, .absoluteX, 3, 7, 0⟩

/-- The opcode value (R99). -/
def Instr.opcode (i : Instr) : Byte := i.desc.opcode

/-- The mnemonic (R99). -/
def Instr.mnemonic (i : Instr) : Mnemonic := i.desc.mnemonic

/-- The addressing mode with its operand (R91). An undefined value resolves to nothing (R122, R312). -/
def Instr.addrMode : Instr → AddrMode
  | .brk => .implied
  | .oraIndX zp => .indexedIndirect zp
  | .undef02 => .implied
  | .sloIndX zp => .indexedIndirect zp
  | .nopZp04 zp => .zeroPage zp
  | .oraZp zp => .zeroPage zp
  | .aslZp zp => .zeroPage zp
  | .sloZp zp => .zeroPage zp
  | .php => .implied
  | .oraImm imm => .immediate imm
  | .aslAcc => .accumulator
  | .undef0B => .implied
  | .nopAbs0C addr => .absolute addr
  | .oraAbs addr => .absolute addr
  | .aslAbs addr => .absolute addr
  | .sloAbs addr => .absolute addr
  | .bpl off => .relative off
  | .oraIndY zp => .indirectIndexed zp
  | .undef12 => .implied
  | .sloIndY zp => .indirectIndexed zp
  | .nopZpX14 zp => .zeroPageX zp
  | .oraZpX zp => .zeroPageX zp
  | .aslZpX zp => .zeroPageX zp
  | .sloZpX zp => .zeroPageX zp
  | .clc => .implied
  | .oraAbsY addr => .absoluteY addr
  | .nop1A => .implied
  | .sloAbsY addr => .absoluteY addr
  | .nopAbsX1C addr => .absoluteX addr
  | .oraAbsX addr => .absoluteX addr
  | .aslAbsX addr => .absoluteX addr
  | .sloAbsX addr => .absoluteX addr
  | .jsrAbs addr => .absolute addr
  | .andIndX zp => .indexedIndirect zp
  | .undef22 => .implied
  | .rlaIndX zp => .indexedIndirect zp
  | .bitZp zp => .zeroPage zp
  | .andZp zp => .zeroPage zp
  | .rolZp zp => .zeroPage zp
  | .rlaZp zp => .zeroPage zp
  | .plp => .implied
  | .andImm imm => .immediate imm
  | .rolAcc => .accumulator
  | .undef2B => .implied
  | .bitAbs addr => .absolute addr
  | .andAbs addr => .absolute addr
  | .rolAbs addr => .absolute addr
  | .rlaAbs addr => .absolute addr
  | .bmi off => .relative off
  | .andIndY zp => .indirectIndexed zp
  | .undef32 => .implied
  | .rlaIndY zp => .indirectIndexed zp
  | .nopZpX34 zp => .zeroPageX zp
  | .andZpX zp => .zeroPageX zp
  | .rolZpX zp => .zeroPageX zp
  | .rlaZpX zp => .zeroPageX zp
  | .sec => .implied
  | .andAbsY addr => .absoluteY addr
  | .nop3A => .implied
  | .rlaAbsY addr => .absoluteY addr
  | .nopAbsX3C addr => .absoluteX addr
  | .andAbsX addr => .absoluteX addr
  | .rolAbsX addr => .absoluteX addr
  | .rlaAbsX addr => .absoluteX addr
  | .rti => .implied
  | .eorIndX zp => .indexedIndirect zp
  | .undef42 => .implied
  | .sreIndX zp => .indexedIndirect zp
  | .nopZp44 zp => .zeroPage zp
  | .eorZp zp => .zeroPage zp
  | .lsrZp zp => .zeroPage zp
  | .sreZp zp => .zeroPage zp
  | .pha => .implied
  | .eorImm imm => .immediate imm
  | .lsrAcc => .accumulator
  | .undef4B => .implied
  | .jmpAbs addr => .absolute addr
  | .eorAbs addr => .absolute addr
  | .lsrAbs addr => .absolute addr
  | .sreAbs addr => .absolute addr
  | .bvc off => .relative off
  | .eorIndY zp => .indirectIndexed zp
  | .undef52 => .implied
  | .sreIndY zp => .indirectIndexed zp
  | .nopZpX54 zp => .zeroPageX zp
  | .eorZpX zp => .zeroPageX zp
  | .lsrZpX zp => .zeroPageX zp
  | .sreZpX zp => .zeroPageX zp
  | .cli => .implied
  | .eorAbsY addr => .absoluteY addr
  | .nop5A => .implied
  | .sreAbsY addr => .absoluteY addr
  | .nopAbsX5C addr => .absoluteX addr
  | .eorAbsX addr => .absoluteX addr
  | .lsrAbsX addr => .absoluteX addr
  | .sreAbsX addr => .absoluteX addr
  | .rts => .implied
  | .adcIndX zp => .indexedIndirect zp
  | .undef62 => .implied
  | .rraIndX zp => .indexedIndirect zp
  | .nopZp64 zp => .zeroPage zp
  | .adcZp zp => .zeroPage zp
  | .rorZp zp => .zeroPage zp
  | .rraZp zp => .zeroPage zp
  | .pla => .implied
  | .adcImm imm => .immediate imm
  | .rorAcc => .accumulator
  | .undef6B => .implied
  | .jmpInd addr => .indirect addr
  | .adcAbs addr => .absolute addr
  | .rorAbs addr => .absolute addr
  | .rraAbs addr => .absolute addr
  | .bvs off => .relative off
  | .adcIndY zp => .indirectIndexed zp
  | .undef72 => .implied
  | .rraIndY zp => .indirectIndexed zp
  | .nopZpX74 zp => .zeroPageX zp
  | .adcZpX zp => .zeroPageX zp
  | .rorZpX zp => .zeroPageX zp
  | .rraZpX zp => .zeroPageX zp
  | .sei => .implied
  | .adcAbsY addr => .absoluteY addr
  | .nop7A => .implied
  | .rraAbsY addr => .absoluteY addr
  | .nopAbsX7C addr => .absoluteX addr
  | .adcAbsX addr => .absoluteX addr
  | .rorAbsX addr => .absoluteX addr
  | .rraAbsX addr => .absoluteX addr
  | .nopImm80 => .immediateSkip
  | .staIndX zp => .indexedIndirect zp
  | .undef82 => .implied
  | .saxIndX zp => .indexedIndirect zp
  | .styZp zp => .zeroPage zp
  | .staZp zp => .zeroPage zp
  | .stxZp zp => .zeroPage zp
  | .saxZp zp => .zeroPage zp
  | .dey => .implied
  | .undef89 => .implied
  | .txa => .implied
  | .undef8B => .implied
  | .styAbs addr => .absolute addr
  | .staAbs addr => .absolute addr
  | .stxAbs addr => .absolute addr
  | .saxAbs addr => .absolute addr
  | .bcc off => .relative off
  | .staIndY zp => .indirectIndexed zp
  | .undef92 => .implied
  | .undef93 => .implied
  | .styZpX zp => .zeroPageX zp
  | .staZpX zp => .zeroPageX zp
  | .stxZpY zp => .zeroPageY zp
  | .saxZpY zp => .zeroPageY zp
  | .tya => .implied
  | .staAbsY addr => .absoluteY addr
  | .txs => .implied
  | .undef9B => .implied
  | .undef9C => .implied
  | .staAbsX addr => .absoluteX addr
  | .undef9E => .implied
  | .undef9F => .implied
  | .ldyImm imm => .immediate imm
  | .ldaIndX zp => .indexedIndirect zp
  | .ldxImm imm => .immediate imm
  | .laxIndX zp => .indexedIndirect zp
  | .ldyZp zp => .zeroPage zp
  | .ldaZp zp => .zeroPage zp
  | .ldxZp zp => .zeroPage zp
  | .laxZp zp => .zeroPage zp
  | .tay => .implied
  | .ldaImm imm => .immediate imm
  | .tax => .implied
  | .undefAB => .implied
  | .ldyAbs addr => .absolute addr
  | .ldaAbs addr => .absolute addr
  | .ldxAbs addr => .absolute addr
  | .laxAbs addr => .absolute addr
  | .bcs off => .relative off
  | .ldaIndY zp => .indirectIndexed zp
  | .undefB2 => .implied
  | .laxIndY zp => .indirectIndexed zp
  | .ldyZpX zp => .zeroPageX zp
  | .ldaZpX zp => .zeroPageX zp
  | .ldxZpY zp => .zeroPageY zp
  | .laxZpY zp => .zeroPageY zp
  | .clv => .implied
  | .ldaAbsY addr => .absoluteY addr
  | .tsx => .implied
  | .undefBB => .implied
  | .ldyAbsX addr => .absoluteX addr
  | .ldaAbsX addr => .absoluteX addr
  | .ldxAbsY addr => .absoluteY addr
  | .laxAbsY addr => .absoluteY addr
  | .cpyImm imm => .immediate imm
  | .cmpIndX zp => .indexedIndirect zp
  | .undefC2 => .implied
  | .dcpIndX zp => .indexedIndirect zp
  | .cpyZp zp => .zeroPage zp
  | .cmpZp zp => .zeroPage zp
  | .decZp zp => .zeroPage zp
  | .dcpZp zp => .zeroPage zp
  | .iny => .implied
  | .cmpImm imm => .immediate imm
  | .dex => .implied
  | .undefCB => .implied
  | .cpyAbs addr => .absolute addr
  | .cmpAbs addr => .absolute addr
  | .decAbs addr => .absolute addr
  | .dcpAbs addr => .absolute addr
  | .bne off => .relative off
  | .cmpIndY zp => .indirectIndexed zp
  | .undefD2 => .implied
  | .dcpIndY zp => .indirectIndexed zp
  | .nopZpXD4 zp => .zeroPageX zp
  | .cmpZpX zp => .zeroPageX zp
  | .decZpX zp => .zeroPageX zp
  | .dcpZpX zp => .zeroPageX zp
  | .cld => .implied
  | .cmpAbsY addr => .absoluteY addr
  | .nopDA => .implied
  | .dcpAbsY addr => .absoluteY addr
  | .nopAbsXDC addr => .absoluteX addr
  | .cmpAbsX addr => .absoluteX addr
  | .decAbsX addr => .absoluteX addr
  | .dcpAbsX addr => .absoluteX addr
  | .cpxImm imm => .immediate imm
  | .sbcIndX zp => .indexedIndirect zp
  | .undefE2 => .implied
  | .isbIndX zp => .indexedIndirect zp
  | .cpxZp zp => .zeroPage zp
  | .sbcZp zp => .zeroPage zp
  | .incZp zp => .zeroPage zp
  | .isbZp zp => .zeroPage zp
  | .inx => .implied
  | .sbcImm imm => .immediate imm
  | .nop => .implied
  | .sbcImmEB imm => .immediate imm
  | .cpxAbs addr => .absolute addr
  | .sbcAbs addr => .absolute addr
  | .incAbs addr => .absolute addr
  | .isbAbs addr => .absolute addr
  | .beq off => .relative off
  | .sbcIndY zp => .indirectIndexed zp
  | .undefF2 => .implied
  | .isbIndY zp => .indirectIndexed zp
  | .nopZpXF4 zp => .zeroPageX zp
  | .sbcZpX zp => .zeroPageX zp
  | .incZpX zp => .zeroPageX zp
  | .isbZpX zp => .zeroPageX zp
  | .sed => .implied
  | .sbcAbsY addr => .absoluteY addr
  | .nopFA => .implied
  | .isbAbsY addr => .absoluteY addr
  | .nopAbsXFC addr => .absoluteX addr
  | .sbcAbsX addr => .absoluteX addr
  | .incAbsX addr => .absoluteX addr
  | .isbAbsX addr => .absoluteX addr

/-! ## The decoder -/

/-- How an opcode value's instruction is built: from no operand byte, from one, or from the word `b2:b1`. -/
inductive Builder where
  | bare (i : Instr)
  | byte (f : Byte → Instr)
  | word (f : Word → Instr)

/-- Row 0x of the grid of R99. -/
def gridRow0 : List Builder :=
  [ .bare .brk, .byte .oraIndX, .bare .undef02, .byte .sloIndX,
    .byte .nopZp04, .byte .oraZp, .byte .aslZp, .byte .sloZp,
    .bare .php, .byte .oraImm, .bare .aslAcc, .bare .undef0B,
    .word .nopAbs0C, .word .oraAbs, .word .aslAbs, .word .sloAbs ]

/-- Row 1x of the grid of R99. -/
def gridRow1 : List Builder :=
  [ .byte .bpl, .byte .oraIndY, .bare .undef12, .byte .sloIndY,
    .byte .nopZpX14, .byte .oraZpX, .byte .aslZpX, .byte .sloZpX,
    .bare .clc, .word .oraAbsY, .bare .nop1A, .word .sloAbsY,
    .word .nopAbsX1C, .word .oraAbsX, .word .aslAbsX, .word .sloAbsX ]

/-- Row 2x of the grid of R99. -/
def gridRow2 : List Builder :=
  [ .word .jsrAbs, .byte .andIndX, .bare .undef22, .byte .rlaIndX,
    .byte .bitZp, .byte .andZp, .byte .rolZp, .byte .rlaZp,
    .bare .plp, .byte .andImm, .bare .rolAcc, .bare .undef2B,
    .word .bitAbs, .word .andAbs, .word .rolAbs, .word .rlaAbs ]

/-- Row 3x of the grid of R99. -/
def gridRow3 : List Builder :=
  [ .byte .bmi, .byte .andIndY, .bare .undef32, .byte .rlaIndY,
    .byte .nopZpX34, .byte .andZpX, .byte .rolZpX, .byte .rlaZpX,
    .bare .sec, .word .andAbsY, .bare .nop3A, .word .rlaAbsY,
    .word .nopAbsX3C, .word .andAbsX, .word .rolAbsX, .word .rlaAbsX ]

/-- Row 4x of the grid of R99. -/
def gridRow4 : List Builder :=
  [ .bare .rti, .byte .eorIndX, .bare .undef42, .byte .sreIndX,
    .byte .nopZp44, .byte .eorZp, .byte .lsrZp, .byte .sreZp,
    .bare .pha, .byte .eorImm, .bare .lsrAcc, .bare .undef4B,
    .word .jmpAbs, .word .eorAbs, .word .lsrAbs, .word .sreAbs ]

/-- Row 5x of the grid of R99. -/
def gridRow5 : List Builder :=
  [ .byte .bvc, .byte .eorIndY, .bare .undef52, .byte .sreIndY,
    .byte .nopZpX54, .byte .eorZpX, .byte .lsrZpX, .byte .sreZpX,
    .bare .cli, .word .eorAbsY, .bare .nop5A, .word .sreAbsY,
    .word .nopAbsX5C, .word .eorAbsX, .word .lsrAbsX, .word .sreAbsX ]

/-- Row 6x of the grid of R99. -/
def gridRow6 : List Builder :=
  [ .bare .rts, .byte .adcIndX, .bare .undef62, .byte .rraIndX,
    .byte .nopZp64, .byte .adcZp, .byte .rorZp, .byte .rraZp,
    .bare .pla, .byte .adcImm, .bare .rorAcc, .bare .undef6B,
    .word .jmpInd, .word .adcAbs, .word .rorAbs, .word .rraAbs ]

/-- Row 7x of the grid of R99. -/
def gridRow7 : List Builder :=
  [ .byte .bvs, .byte .adcIndY, .bare .undef72, .byte .rraIndY,
    .byte .nopZpX74, .byte .adcZpX, .byte .rorZpX, .byte .rraZpX,
    .bare .sei, .word .adcAbsY, .bare .nop7A, .word .rraAbsY,
    .word .nopAbsX7C, .word .adcAbsX, .word .rorAbsX, .word .rraAbsX ]

/-- Row 8x of the grid of R99. -/
def gridRow8 : List Builder :=
  [ .bare .nopImm80, .byte .staIndX, .bare .undef82, .byte .saxIndX,
    .byte .styZp, .byte .staZp, .byte .stxZp, .byte .saxZp,
    .bare .dey, .bare .undef89, .bare .txa, .bare .undef8B,
    .word .styAbs, .word .staAbs, .word .stxAbs, .word .saxAbs ]

/-- Row 9x of the grid of R99. -/
def gridRow9 : List Builder :=
  [ .byte .bcc, .byte .staIndY, .bare .undef92, .bare .undef93,
    .byte .styZpX, .byte .staZpX, .byte .stxZpY, .byte .saxZpY,
    .bare .tya, .word .staAbsY, .bare .txs, .bare .undef9B,
    .bare .undef9C, .word .staAbsX, .bare .undef9E, .bare .undef9F ]

/-- Row Ax of the grid of R99. -/
def gridRowA : List Builder :=
  [ .byte .ldyImm, .byte .ldaIndX, .byte .ldxImm, .byte .laxIndX,
    .byte .ldyZp, .byte .ldaZp, .byte .ldxZp, .byte .laxZp,
    .bare .tay, .byte .ldaImm, .bare .tax, .bare .undefAB,
    .word .ldyAbs, .word .ldaAbs, .word .ldxAbs, .word .laxAbs ]

/-- Row Bx of the grid of R99. -/
def gridRowB : List Builder :=
  [ .byte .bcs, .byte .ldaIndY, .bare .undefB2, .byte .laxIndY,
    .byte .ldyZpX, .byte .ldaZpX, .byte .ldxZpY, .byte .laxZpY,
    .bare .clv, .word .ldaAbsY, .bare .tsx, .bare .undefBB,
    .word .ldyAbsX, .word .ldaAbsX, .word .ldxAbsY, .word .laxAbsY ]

/-- Row Cx of the grid of R99. -/
def gridRowC : List Builder :=
  [ .byte .cpyImm, .byte .cmpIndX, .bare .undefC2, .byte .dcpIndX,
    .byte .cpyZp, .byte .cmpZp, .byte .decZp, .byte .dcpZp,
    .bare .iny, .byte .cmpImm, .bare .dex, .bare .undefCB,
    .word .cpyAbs, .word .cmpAbs, .word .decAbs, .word .dcpAbs ]

/-- Row Dx of the grid of R99. -/
def gridRowD : List Builder :=
  [ .byte .bne, .byte .cmpIndY, .bare .undefD2, .byte .dcpIndY,
    .byte .nopZpXD4, .byte .cmpZpX, .byte .decZpX, .byte .dcpZpX,
    .bare .cld, .word .cmpAbsY, .bare .nopDA, .word .dcpAbsY,
    .word .nopAbsXDC, .word .cmpAbsX, .word .decAbsX, .word .dcpAbsX ]

/-- Row Ex of the grid of R99. -/
def gridRowE : List Builder :=
  [ .byte .cpxImm, .byte .sbcIndX, .bare .undefE2, .byte .isbIndX,
    .byte .cpxZp, .byte .sbcZp, .byte .incZp, .byte .isbZp,
    .bare .inx, .byte .sbcImm, .bare .nop, .byte .sbcImmEB,
    .word .cpxAbs, .word .sbcAbs, .word .incAbs, .word .isbAbs ]

/-- Row Fx of the grid of R99. -/
def gridRowF : List Builder :=
  [ .byte .beq, .byte .sbcIndY, .bare .undefF2, .byte .isbIndY,
    .byte .nopZpXF4, .byte .sbcZpX, .byte .incZpX, .byte .isbZpX,
    .bare .sed, .word .sbcAbsY, .bare .nopFA, .word .isbAbsY,
    .word .nopAbsXFC, .word .sbcAbsX, .word .incAbsX, .word .isbAbsX ]

/-- The grid of R99: 16 rows by the high digit of the opcode value, each of 16 cells by the low digit. -/
def grid : List (List Builder) :=
  [ gridRow0, gridRow1, gridRow2, gridRow3, gridRow4, gridRow5, gridRow6, gridRow7,
    gridRow8, gridRow9, gridRowA, gridRowB, gridRowC, gridRowD, gridRowE, gridRowF ]

theorem grid_length : grid.length = 16 := rfl

theorem grid_row_length {row : List Builder} (h : row ∈ grid) : row.length = 16 := by
  revert row
  simp [grid, gridRow0, gridRow1, gridRow2, gridRow3, gridRow4, gridRow5, gridRow6, gridRow7, gridRow8, gridRow9,
    gridRowA, gridRowB, gridRowC, gridRowD, gridRowE, gridRowF]

/-- The row of an opcode value. -/
def gridRowOf (op : Byte) : List Builder :=
  grid[op.toNat / 16]'(by rw [grid_length]; have := op.isLt; omega)

theorem gridRowOf_length (op : Byte) : (gridRowOf op).length = 16 := grid_row_length (List.getElem_mem _)

/-- The cell of an opcode value: every byte has one (R97). -/
def builderOf (op : Byte) : Builder :=
  (gridRowOf op)[op.toNat % 16]'(by rw [gridRowOf_length]; omega)

/-- The operand bytes an opcode value's instruction reads (R78, R91): 0, 1 or 2. -/
def Builder.reads : Builder → Nat
  | .bare _ => 0
  | .byte _ => 1
  | .word _ => 2

/-- The instruction of a cell, given the bytes after the opcode; a byte that is not read is ignored. -/
def Builder.instr : Builder → Byte → Byte → Instr
  | .bare i, _, _ => i
  | .byte f, b1, _ => f b1
  | .word f, b1, b2 => f (wordOf b2 b1)

/-- The instruction that the bytes `op`, `b1`, `b2` begin (R90, R91): total (R97). -/
def decodeOp (op b1 b2 : Byte) : Instr := (builderOf op).instr b1 b2

/-- `DESC[op]` (R92): the descriptor depends on the opcode value only. -/
def descOf (op : Byte) : Desc := (decodeOp op 0 0).desc

/-- Why a list of bytes begins no whole instruction: it is too short. No byte value is rejected (R97). -/
inductive DecodeError where
  /-- There is no byte at all. -/
  | noBytes
  /-- The list ends before the length of `op`'s descriptor (R98). -/
  | truncated (op : Byte)
  deriving DecidableEq, Repr

/-- The decoder: an instruction and the bytes after it. The length is the descriptor's (R98); for an undefined
value it is the default of R104. -/
def decode : List Byte → Except DecodeError (Instr × List Byte)
  | [] => .error .noBytes
  | op :: rest =>
    if rest.length < (descOf op).len - 1 then .error (.truncated op)
    else .ok (decodeOp op (rest.getD 0 0) (rest.getD 1 0), rest.drop ((descOf op).len - 1))

/-! ## The encoder -/

/-- The operand bytes in the order of R91: a 16-bit operand has its low byte first (R93). -/
def AddrMode.bytes : AddrMode → List Byte
  | .implied | .accumulator | .immediateSkip => []
  | .immediate b | .zeroPage b | .zeroPageX b | .zeroPageY b | .relative b
  | .indexedIndirect b | .indirectIndexed b => [b]
  | .absolute w | .absoluteX w | .absoluteY w | .indirect w => [lo8 w, hi8 w]

/-- The bytes of an instruction (R91). A byte that the instruction skips and never reads (NOP 0x80, R292; an
undefined value longer than its opcode, R312) is written as 0x00. Log entry 8. -/
def encode (i : Instr) : List Byte :=
  i.opcode :: (i.addrMode.bytes ++ List.replicate (i.desc.len - 1 - i.addrMode.bytes.length) 0)

/-! ## The host's reading of a table word -/

/-- The three bytes of an instruction word numbered as spec/opcode_table.json numbers it: the first byte is bits 7..0,
and the bits from `nbits` up are 0. -/
def tableBytes (nbits w : Nat) : List Byte :=
  let v := w % 2 ^ nbits
  [BitVec.ofNat 8 v, BitVec.ofNat 8 (v / 0x100), BitVec.ofNat 8 (v / 0x10000)]

/-- The instruction the decoder reads from a table word. -/
def decodeTableWord (nbits w : Nat) : Option Instr :=
  match decode (tableBytes nbits w) with
  | .ok (i, _) => some i
  | .error _ => none

end Sys2Proof
end

