-- ==== Sys2Proof/Machine/Flags.lean ====
section
/-!
DEFINITION. The flag set P as a byte with named bits (spec/10_state.md R27), and every flag computation: SetNZ (R142),
the adder (R180), the compare (R181), the shifts and rotates (R220) and the status byte of pushes and pulls (R240, R241).
All are functions of bytes; none sees the state.
-/

namespace Sys2Proof.Machine

/-- The eight flags (R27). -/
inductive Flag where
  | c | z | i | d | b | u | v | n
  deriving DecidableEq, Repr

/-- A flag's bit number in P (R27). -/
def Flag.bit : Flag → Nat
  | .c => 0 | .z => 1 | .i => 2 | .d => 3 | .b => 4 | .u => 5 | .v => 6 | .n => 7

/-- The value of a flag in a status byte. -/
def getFlag (p : Byte) (f : Flag) : Bool := p.getLsbD f.bit

/-- The status byte with one flag written and the others kept (R29). -/
def setFlag (p : Byte) (f : Flag) (on : Bool) : Byte :=
  if on then p ||| (1#8 <<< f.bit) else p &&& ~~~(1#8 <<< f.bit)

/-- `SetNZ(v)`: `Z <- (v = 0x00); N <- v[7]` (R142). -/
def setNZ (v p : Byte) : Byte := setFlag (setFlag p .z (v == 0)) .n (v.getLsbD 7)

/-- What the adder answers (R180). -/
structure Sum where
  result   : Byte
  carry    : Bool
  overflow : Bool
  deriving DecidableEq, Repr

/-- `AddCore(a, m, cin)`: the exact 9-bit sum, its low byte, its carry out and the two's-complement overflow (R180).
The D flag has no part in it (R182). -/
def addCore (a m : Byte) (cin : Bool) : Sum :=
  let s := a.toNat + m.toNat + cin.toNat
  let r := BitVec.ofNat 8 s
  ⟨r, decide (255 < s), ((a ^^^ r) &&& (m ^^^ r)).getLsbD 7⟩

/-- `Compare(reg, m)`: C from the unsigned order, N and Z from the difference, V kept (R181). -/
def compareFlags (reg m p : Byte) : Byte := setNZ (reg - m) (setFlag p .c (decide (m ≤ reg)))

/-- `ShlF(v)` (R220). -/
def shlF (v : Byte) : Byte × Bool := (v <<< 1, v.getLsbD 7)

/-- `ShrF(v)` (R220). -/
def shrF (v : Byte) : Byte × Bool := (v >>> 1, v.getLsbD 0)

/-- `RolF(v, c)` (R220). -/
def rolF (v : Byte) (c : Bool) : Byte × Bool := ((v <<< 1) ||| (BitVec.ofBool c).setWidth 8, v.getLsbD 7)

/-- `RorF(v, c)` (R220). -/
def rorF (v : Byte) (c : Bool) : Byte × Bool := ((v >>> 1) ||| ((BitVec.ofBool c).setWidth 8 <<< 7), v.getLsbD 0)

/-- The byte that PushStatus pushes: bits 4 and 5 forced to 1 (R240). -/
def pushedStatus (p : Byte) : Byte := p ||| 0x30

/-- The flag set that PullStatus makes of a pulled byte: bit 4 cleared, bit 5 set (R241). -/
def pulledStatus (v : Byte) : Byte := (v &&& 0xCF) ||| 0x20

/-- P after reset: I and U are 1 and the other six are the launch's draws (R370, R371). -/
def resetStatus (c z d b v n : Bool) : Byte :=
  setFlag (setFlag (setFlag (setFlag (setFlag (setFlag 0x24 .c c) .z z) .d d) .b b) .v v) .n n

end Sys2Proof.Machine
end

