-- ==== Sys2Proof/Machine/Memory.lean ====
section
/-!
DEFINITION. A byte array of the bus as plain data: a list of (index, byte) pairs in one canonical form, with indexes
strictly rising and no entry equal to what an unlisted index reads as. RAM, save storage, the audio register bank and
the program image are four such arrays (spec/10_state.md R40–R43), each indexed as the spec indexes it.
-/

namespace Sys2Proof.Machine

/-- A byte array (R40–R43). -/
abbrev Memory := List Host.Cell

/-- What an index that is not listed reads as: 0x00. DESIGN CHOICE, unsafe (log entry 2): the spec draws power-on
contents (R40, R42) and leaves SRAM_INIT and PRG open (R7). A Launch may list any other contents. -/
def Memory.unlisted : Byte := 0x00

/-- The byte at index `k`. -/
def Memory.read : Memory → Nat → Byte
  | [], _ => Memory.unlisted
  | (k', v) :: r, k => if k = k' then v else Memory.read r k

/-- The array without an entry for `k`. -/
def Memory.erase : Memory → Nat → Memory
  | [], _ => []
  | (k', v) :: r, k => if k = k' then Memory.erase r k else (k', v) :: Memory.erase r k

/-- The array with the entry `(k, v)`, kept in rising order. -/
def Memory.put : Memory → Nat → Byte → Memory
  | [], k, v => [(k, v)]
  | (k', v') :: r, k, v =>
    if k < k' then (k, v) :: (k', v') :: r
    else if k = k' then (k, v) :: r
    else (k', v') :: Memory.put r k v

/-- The array with byte `v` at index `k`: writing what an unlisted index reads as removes the entry. -/
def Memory.write (m : Memory) (k : Nat) (v : Byte) : Memory :=
  if v = Memory.unlisted then Memory.erase m k else Memory.put m k v

/-- Canonical form with every index in `lo .. size - 1`. -/
def Memory.wfFrom : Nat → Nat → Memory → Bool
  | _, _, [] => true
  | lo, size, (k, v) :: r =>
    decide (lo ≤ k) && decide (k < size) && decide (v ≠ Memory.unlisted) && Memory.wfFrom (k + 1) size r

/-- The canonical form of an array of `size` bytes. -/
def Memory.wf (size : Nat) (m : Memory) : Bool := Memory.wfFrom 0 size m

/-- RAM is 2 KiB (R40). -/
def ramSize : Nat := 0x800
/-- The cartridge save storage is 8 KiB (R41). -/
def sramSize : Nat := 0x2000
/-- The audio register bank has 22 entries (R42). -/
def apuSize : Nat := 0x16
/-- A program bank is 16 KiB (R6). -/
def bankSize : Nat := 0x4000

/-- The image offset that program storage shows at `addr` in 0x8000–0xFFFF (R59): the first bank below 0xC000, the last
bank from there on. -/
def programIndex (prgBanks : Nat) (addr : Word) : Nat :=
  let off := (addr &&& 0x3FFF).toNat
  if addr < 0xC000 then off else (prgBanks - 1) * bankSize + off

end Sys2Proof.Machine
end

