-- ==== Sys2Proof/Machine/State.lean ====
section
/-!
DEFINITION. The state of one core (spec/10_state.md R49) as plain data, the reset transition (spec/70_reset_and_hazards.md
R370) and the reasons a step can stop.
-/

namespace Sys2Proof.Machine

/-- The two causes of a fatal contract violation (R330, R335). Neither can happen: an address is a 16-bit value (R61,
D37) and the decoder gives every opcode value one of the known modes (R97, R146). No definition of the model raises one. -/
inductive FatalReason where
  | addressOutOfRange
  | badModeTag
  deriving DecidableEq, Repr

/-- `RUN`, the run status (R45). -/
inductive RunStatus where
  | running
  | halted
  | fatal (reason : FatalReason)
  deriving DecidableEq, Repr

/-- The kind of a bus event (R46). -/
inductive EventKind where
  | rd
  | wr
  deriving DecidableEq, Repr

/-- One entry of `EVENTS`: `(kind, addr, value)` (R46, R77). -/
structure Event where
  kind  : EventKind
  addr  : Word
  value : Byte
  deriving DecidableEq, Repr

/-- One entry of `DIAG`: `(opcode, PC0)` (R44). -/
structure Diagnostic where
  opcode : Byte
  pc     : Word
  deriving DecidableEq, Repr

end Sys2Proof.Machine

namespace Sys2Proof.Machine

/-- The state of one core: the tuple of R49, the program image and the configuration that every step reads and none
writes, and the model's own `drawIndex`. -/
structure State where
  /-- `A`, the accumulator (R21). -/
  a : Byte
  /-- `X` (R22). -/
  x : Byte
  /-- `Y` (R23). -/
  y : Byte
  /-- `SP` (R26). -/
  sp : Byte
  /-- `P`, the flag set (R27). -/
  p : Byte
  /-- `PC` (R24). -/
  pc : Word
  /-- `CYC`, without an upper bound (R37). -/
  cyc : Nat
  /-- `RAM`, 2048 bytes (R40). -/
  ram : Memory
  /-- `SRAM`, the save storage, 8192 bytes (R41). -/
  sram : Memory
  /-- `APUREG`, the audio register bank, 22 bytes (R42). -/
  apu : Memory
  /-- `DIAG`, the diagnostic record (R44). -/
  diag : List Diagnostic
  /-- `RUN` (R45). -/
  run : RunStatus
  /-- `EVENTS`, the bus event history, oldest first (R46). -/
  events : List Event
  /-- `PRG`, the program image (R43): configuration, no step writes it. -/
  prg : Memory
  /-- The rest of the configuration (R49): no step writes it. -/
  cfg : Config
  /-- The model's own counter, not the spec's: the index of the next draw (R13). Log entry 3. -/
  drawIndex : Nat
  deriving DecidableEq, Repr

/-- What the reset transition draws or is given (R370): the values of R47's table that the spec does not fix. -/
structure Launch where
  a : Byte
  x : Byte
  y : Byte
  c : Bool
  z : Bool
  d : Bool
  b : Bool
  v : Bool
  n : Bool
  ram : Memory
  apu : Memory
  sramInit : Memory
  prg : Memory
  cfg : Config
  drawIndex : Nat
  deriving DecidableEq, Repr

/-- A valid launch (D36): a valid configuration, and arrays of the sizes the spec gives, in canonical form. -/
def Launch.valid (l : Launch) : Bool :=
  l.cfg.valid && Memory.wf ramSize l.ram && Memory.wf apuSize l.apu && Memory.wf sramSize l.sramInit
    && Memory.wf (l.cfg.prgBanks * bankSize) l.prg

/-- `SP_RESET` (R7, R47). -/
def spReset : Byte := 0xFD

/-- `CYC_RESET` (R7, R47). -/
def cycReset : Nat := 7

/-- The little-endian word at 0xFFFC–0xFFFD of the program image (R59, R370). -/
def resetVector (prgBanks : Nat) (prg : Memory) : Word :=
  wordOf (Memory.read prg (programIndex prgBanks 0xFFFD)) (Memory.read prg (programIndex prgBanks 0xFFFC))

/-- The reset transition of R370, for any draws and any configuration. -/
def State.launch (l : Launch) : State where
  a := l.a
  x := l.x
  y := l.y
  sp := spReset
  p := resetStatus l.c l.z l.d l.b l.v l.n
  pc := resetVector l.cfg.prgBanks l.prg
  cyc := cycReset
  ram := l.ram
  sram := l.sramInit
  apu := l.apu
  diag := []
  run := .running
  events := []
  prg := l.prg
  cfg := l.cfg
  drawIndex := l.drawIndex

/-- The launch that State.reset stands for: every draw 0, nothing listed in any array, one program bank, no sentinel and
no departure from R104. DESIGN CHOICE, unsafe: log entry 1. -/
def Launch.blank : Launch where
  a := 0
  x := 0
  y := 0
  c := false
  z := false
  d := false
  b := false
  v := false
  n := false
  ram := []
  apu := []
  sramInit := []
  prg := []
  cfg := { prgBanks := 1, unmappedValue := Config.unmappedValueAtReset, sentinel := none, undef := [] }
  drawIndex := 0

/-- The machine right after reset (R370), from the blank launch. -/
def State.reset : State := State.launch Launch.blank

/-- Why a step stops. No instruction raises either: `step` answers one when no step exists (R120). -/
inductive Fault where
  /-- `RUN = Halted`: the harness sentinel was reached, and no step exists from there (R45, R333). Raised by `step`. Safe. -/
  | halted
  /-- `RUN = Fatal(reason)`: no step exists from there (R45, R330). Raised by `step`. Safe, and no step reaches it. -/
  | fatal (reason : FatalReason)
  deriving DecidableEq, Repr

/-- Why an instruction has no meaning. -/
inductive Refusal where
  /-- The instruction's meaning is not written. No arm of exec answers it: every row of the table has its meaning. Safe. -/
  | notModelled (mnemonic : String)
  deriving DecidableEq, Repr

end Sys2Proof.Machine
end

