-- ==== Sys2Proof/Machine/Ops.lean ====
section
/-!
DEFINITION. The named operations over registers and memory: the register updates, the memory-mapped bus
(spec/20_memory.md R50–R63, R77, R79), the stack (spec/40_step_and_addressing.md R143, R144), the status byte
(spec/44_control_stack_flags.md R240, R241), and taking the one trap, BRK, with the return from it
(R246, R338; R245, R339).
-/

namespace Sys2Proof.Machine

/-! ## Register updates -/

def State.setA (s : State) (v : Byte) : State := { s with a := v }
def State.setX (s : State) (v : Byte) : State := { s with x := v }
def State.setY (s : State) (v : Byte) : State := { s with y := v }
def State.setSp (s : State) (v : Byte) : State := { s with sp := v }
def State.setP (s : State) (v : Byte) : State := { s with p := v }
def State.setPc (s : State) (w : Word) : State := { s with pc := w }
/-- `CYC <- CYC + n` (R37, R124). -/
def State.addCyc (s : State) (n : Nat) : State := { s with cyc := s.cyc + n }
def State.setRam (s : State) (m : Memory) : State := { s with ram := m }
def State.setSram (s : State) (m : Memory) : State := { s with sram := m }
def State.setApu (s : State) (m : Memory) : State := { s with apu := m }
def State.setRun (s : State) (r : RunStatus) : State := { s with run := r }
/-- `DIAG <- DIAG ++ [(op, pc)]` (R331). -/
def State.addDiag (s : State) (d : Diagnostic) : State := { s with diag := s.diag ++ [d] }
/-- Appends one entry to `EVENTS` (R77). -/
def State.addEvent (s : State) (e : Event) : State := { s with events := s.events ++ [e] }
/-- The draw at the counter is spent (log entry 3). -/
def State.nextDraw (s : State) : State := { s with drawIndex := s.drawIndex + 1 }

/-- A flag of P. -/
def State.flag (s : State) (f : Flag) : Bool := getFlag s.p f

/-- `P` with one flag written. -/
def State.setFlag (s : State) (f : Flag) (on : Bool) : State := s.setP (Machine.setFlag s.p f on)

/-- `SetNZ(v)` (R142). -/
def State.setNZ (s : State) (v : Byte) : State := s.setP (Machine.setNZ v s.p)

/-! ## The bus -/

/-- Where the bus sends an address (R51). -/
inductive Target where
  /-- RAM cell `i` (R52). -/
  | ram (i : Nat)
  /-- Pixel-unit register 0x2000–0x2007 (R53). -/
  | pixel (reg : Word)
  /-- Audio-unit register `i` of the bank (R54). -/
  | audio (i : Nat)
  /-- The DMA trigger 0x4014 (R55). -/
  | dma
  /-- An input-device register (R56). -/
  | input
  /-- The unmapped expansion (R57). -/
  | unmapped
  /-- Save-storage cell `i` (R58). -/
  | save (i : Nat)
  /-- Program storage (R59, R60). -/
  | program
  deriving DecidableEq, Repr

/-- The address dispatch of R51: the first range that contains the address. -/
def busTarget (addr : Word) : Target :=
  if addr < 0x2000 then .ram (addr &&& 0x07FF).toNat
  else if addr < 0x4000 then .pixel (0x2000 ||| (addr &&& 0x0007))
  else if addr < 0x4014 then .audio (addr - 0x4000).toNat
  else if addr = 0x4014 then .dma
  else if addr = 0x4015 then .audio (addr - 0x4000).toNat
  else if addr < 0x4018 then .input
  else if addr < 0x6000 then .unmapped
  else if addr < 0x8000 then .save (addr - 0x6000).toNat
  else .program

/-- The byte that a read of program storage returns (R59). -/
def State.programByte (s : State) (addr : Word) : Byte :=
  Memory.read s.prg (programIndex s.cfg.prgBanks addr)

/-- A read of a peripheral window: a draw, recorded (R53–R56, R77). -/
def deviceRead (reg : Word) (s : State) : Byte × State :=
  (Config.draw s.drawIndex, s.nextDraw.addEvent ⟨.rd, reg, Config.draw s.drawIndex⟩)

/-- `MemRead(addr, 1)` (R50–R59). -/
def busRead (addr : Word) (s : State) : Byte × State :=
  match busTarget addr with
  | .ram i => (Memory.read s.ram i, s)
  | .pixel reg => deviceRead reg s
  | .audio _ => deviceRead addr s
  | .dma => deviceRead addr s
  | .input => deviceRead addr s
  | .unmapped => (s.cfg.unmappedValue, s.addEvent ⟨.rd, addr, s.cfg.unmappedValue⟩)
  | .save i => (Memory.read s.sram i, s)
  | .program => (s.programByte addr, s)

/-- `MemWrite(addr, 1, v)` (R50–R60). A write to program storage is dropped (R60). -/
def busWrite (addr : Word) (v : Byte) (s : State) : State :=
  match busTarget addr with
  | .ram i => s.setRam (Memory.write s.ram i v)
  | .pixel reg => s.addEvent ⟨.wr, reg, v⟩
  | .audio i => (s.setApu (Memory.write s.apu i v)).addEvent ⟨.wr, addr, v⟩
  | .dma => s.addEvent ⟨.wr, addr, v⟩
  | .input => s.addEvent ⟨.wr, addr, v⟩
  | .unmapped => s.addEvent ⟨.wr, addr, v⟩
  | .save i => s.setSram (Memory.write s.sram i v)
  | .program => s

/-- `Peek(addr)`: the side-effect-free read (R79). -/
def State.peek (s : State) (addr : Word) : Byte :=
  match busTarget addr with
  | .ram i => Memory.read s.ram i
  | .pixel _ => Config.peekDevice addr
  | .audio _ => Config.peekDevice addr
  | .dma => Config.peekDevice addr
  | .input => Config.peekDevice addr
  | .unmapped => s.cfg.unmappedValue
  | .save i => Memory.read s.sram i
  | .program => s.programByte addr

/-- `Read16(a)`: low byte first, no page wrap (R62). -/
def read16 (a : Word) (s : State) : Word × State :=
  let lo := busRead a s
  let hi := busRead (a + 1) lo.2
  (wordOf hi.1 lo.1, hi.2)

/-- The address of the high byte in `Read16PW(a)`: the next one within the page of `a` (R63). -/
def nextInPage (a : Word) : Word := (a &&& 0xFF00) ||| ((a + 1) &&& 0x00FF)

/-- `Read16PW(a)`: low byte first, the high byte from the same page (R63). -/
def read16PW (a : Word) (s : State) : Word × State :=
  let lo := busRead a s
  let hi := busRead (nextInPage a) lo.2
  (wordOf hi.1 lo.1, hi.2)

/-! ## The stack -/

/-- The stack byte that SP indexes: `0x0100 | SP` (R26, R143). -/
def stackAddr (sp : Byte) : Word := 0x0100 ||| zext16 sp

/-- `Push(v)`: writes, then decrements SP modulo 256 (R143). -/
def push (v : Byte) (s : State) : State :=
  let w := busWrite (stackAddr s.sp) v s
  w.setSp (w.sp - 1)

/-- `Pull()`: increments SP modulo 256, then reads (R143). -/
def pull (s : State) : Byte × State :=
  let w := s.setSp (s.sp + 1)
  busRead (stackAddr w.sp) w

/-- `Push16(w)`: the high byte first (R144). -/
def push16 (w : Word) (s : State) : State := push (lo8 w) (push (hi8 w) s)

/-- `Pull16()`: the low byte first (R144). -/
def pull16 (s : State) : Word × State :=
  let lo := pull s
  let hi := pull lo.2
  (wordOf hi.1 lo.1, hi.2)

/-- `PushStatus()` (R240). -/
def pushStatus (s : State) : State := push (pushedStatus s.p) s

/-- `PullStatus(Pull())` (R241). -/
def pullStatus (s : State) : State :=
  let v := pull s
  v.2.setP (pulledStatus v.1)

/-! ## The trap and the return from it -/

/-- The BRK vector (R68). -/
def breakVector : Word := 0xFFFE

/-- Taking the one trap (R246, R338): saves `PC + 1` and then `P | 0x30`, sets I, and loads PC from 0xFFFE–0xFFFF.
PC is the advanced one, `PC0 + 1`. -/
def enterBreak (s : State) : State :=
  let w := pushStatus (push16 (s.pc + 1) s)
  let v := read16 breakVector (w.setFlag .i true)
  v.2.setPc v.1

/-- The return from the trap (R245, R339): pulls P by PullStatus, then PC without the +1 of RTS. -/
def returnFromBreak (s : State) : State :=
  let w := pull16 (pullStatus s)
  w.2.setPc w.1

/-- `raise Diagnostic(op, pc)` (R331). -/
def raiseDiagnostic (op : Byte) (pc0 : Word) (s : State) : State := s.addDiag ⟨op, pc0⟩

end Sys2Proof.Machine
end

