-- ==== Sys2Proof/Machine/Operands.lean ====
section
/-!
DEFINITION. The 13 addressing modes (spec/40_step_and_addressing.md R127–R140), `Operand` and `WriteBack` (R141).
The operand bytes are already read: they stand in the AddrMode. Resolution makes the pointer reads.
-/

namespace Sys2Proof.Machine

/-- The effective address (R122): an address, or a sentinel. `imm` is the immediate mode's address with the byte that the
step read there (R129; log entry 9). -/
inductive EA where
  | none
  | acc
  | imm (addr : Word) (v : Byte)
  | mem (addr : Word)
  deriving DecidableEq, Repr

/-- What `Resolve` returns (R122), with the state after the mode's reads. -/
structure Resolution where
  ea      : EA
  crossed : Bool
  state   : State
  deriving DecidableEq, Repr

/-- The page-crossing test between the unindexed base and the indexed address (R140). -/
def pageCrossed (base ea : Word) : Bool := hi8 ea != hi8 base

/-- `Resolve(mode, op)` (R122): `s.pc` is `PC0`. All address arithmetic wraps at 16 bits, or at 8 in page zero. -/
def resolve (m : AddrMode) (s : State) : Resolution :=
  match m with
  | .implied => ⟨.none, false, s⟩
  | .accumulator => ⟨.acc, false, s⟩
  | .immediate b => ⟨.imm (s.pc + 1) b, false, s⟩
  | .immediateSkip => ⟨.mem (s.pc + 1), false, s⟩
  | .zeroPage b => ⟨.mem (zext16 b), false, s⟩
  | .zeroPageX b => ⟨.mem (zext16 (b + s.x)), false, s⟩
  | .zeroPageY b => ⟨.mem (zext16 (b + s.y)), false, s⟩
  | .relative b => ⟨.mem (s.pc + 2 + sext16 b), false, s⟩
  | .absolute w => ⟨.mem w, false, s⟩
  | .absoluteX w => ⟨.mem (w + zext16 s.x), pageCrossed w (w + zext16 s.x), s⟩
  | .absoluteY w => ⟨.mem (w + zext16 s.y), pageCrossed w (w + zext16 s.y), s⟩
  | .indirect w =>
    let t := read16PW w s
    ⟨.mem t.1, false, t.2⟩
  | .indexedIndirect b =>
    let t := read16PW (zext16 (b + s.x)) s
    ⟨.mem t.1, false, t.2⟩
  | .indirectIndexed b =>
    let t := read16PW (zext16 b) s
    ⟨.mem (t.1 + zext16 s.y), pageCrossed t.1 (t.1 + zext16 s.y), t.2⟩

/-- `Operand(EA)` (R141): A, or one bus read. The immediate byte was read by the step (log entry 9).
`Operand(NONE)` never occurs (R141; log entry 6). -/
def operand (ea : EA) (s : State) : Byte × State :=
  match ea with
  | .none => (Config.noOperand, s)
  | .acc => (s.a, s)
  | .imm _ v => (v, s)
  | .mem a => busRead a s

/-- `WriteBack(EA, v)` (R141): A, or one bus write. `WriteBack(NONE, v)` never occurs (R141; log entry 6). -/
def writeBack (ea : EA) (v : Byte) (s : State) : State :=
  match ea with
  | .none => s
  | .acc => s.setA v
  | .imm a _ => busWrite a v s
  | .mem a => busWrite a v s

/-- `PC <- EA` of the jumps (R242, R243). Their modes always resolve to an address (R133, R136). -/
def jumpTo (ea : EA) (s : State) : State :=
  match ea with
  | .none => s
  | .acc => s
  | .imm a _ => s.setPc a
  | .mem a => s.setPc a

end Sys2Proof.Machine
end

