-- ==== Sys2Proof/Machine/Run.lean ====
section
/-!
DEFINITION. The phases of a step that follow the fetch, shared by every instruction (spec/40_step_and_addressing.md
R120, R122–R126): resolve, advance, account, execute, and the halt check (spec/60_exceptions.md R333).
-/

namespace Sys2Proof.Machine

/-- The execute phase of an instruction: from its effective address and the state to `extra` and the next state (R125). -/
abbrev Action := EA → State → Nat × State

/-- The configuration's departure from R104 for an undefined opcode value, if it has one (R103). -/
def undefEntry (cfg : Config) (op : Byte) : Option UndefEntry := cfg.undef.find? (fun e => e.opcode == op)

/-- The descriptor's length (R98): for an undefined value, `UNDEF_LEN[op]` (R104). -/
def instrLen (cfg : Config) (i : Instr) : Nat :=
  match i.desc.cls with
  | .undefined =>
    match undefEntry cfg i.opcode with
    | some e => e.len
    | none => i.desc.len
  | .documented => i.desc.len
  | .undocumented => i.desc.len

/-- The descriptor's base cycles (R92): for an undefined value, `UNDEF_CYC[op]` (R104). -/
def baseCycles (cfg : Config) (i : Instr) : Nat :=
  match i.desc.cls with
  | .undefined =>
    match undefEntry cfg i.opcode with
    | some e => e.cycles
    | none => i.desc.cycles
  | .documented => i.desc.cycles
  | .undocumented => i.desc.cycles

/-- What the step accounts before it executes (R124). -/
def accounted (cfg : Config) (i : Instr) (crossed : Bool) : Nat :=
  baseCycles cfg i + (if crossed then i.desc.penalty else 0)

/-- `HaltCheck(op)` (R333): after an RTS (0x60) whose new PC is the sentinel, the core halts. -/
def haltCheck (i : Instr) (s : State) : State :=
  if i.opcode = 0x60 ∧ s.cfg.sentinel = some s.pc then s.setRun .halted else s

/-- The state in which the execute phase begins: resolved, advanced and accounted (R122, R123, R124). -/
def beforeExecute (i : Instr) (s : State) : State :=
  ((resolve i.addrMode s).state.setPc (s.pc + BitVec.ofNat 16 (instrLen s.cfg i))).addCyc
    (accounted s.cfg i (resolve i.addrMode s).crossed)

/-- The state after phases 2 to 6 of a step, from the state in which the fetch left it (R120). -/
def afterExecute (i : Instr) (act : Action) (s : State) : State :=
  let r := act (resolve i.addrMode s).ea (beforeExecute i s)
  haltCheck i (r.2.addCyc r.1)

/-- Running one instruction: every meaning is this over its own action. -/
def runInstr (i : Instr) (act : Action) (s : State) : Host.Outcome State Fault Refusal :=
  .next (afterExecute i act s)

/-! ## The shapes of an action -/

/-- Reads nothing at EA and costs nothing more. -/
def plainly (f : State → State) : Action := fun _ s => (0, f s)

/-- One read of the operand, then the update (R141). -/
def reading (f : Byte → State → State) : Action := fun ea s =>
  let o := operand ea s
  (0, f o.1 o.2)

/-- One write at EA, with no read of it (R153). -/
def storing (f : State → Byte) : Action := fun ea s => (0, writeBack ea (f s) s)

/-- One read and then one write at EA, then the update from the result and the bit shifted out (R74, R221, R306). -/
def modifying (f : Byte → Bool → Byte × Bool) (g : Byte → Bool → State → State) : Action := fun ea s =>
  let o := operand ea s
  let r := f o.1 (o.2.flag .c)
  (0, g r.1 r.2 (writeBack ea r.1 o.2))

end Sys2Proof.Machine
end

