-- ==== Sys2Proof/Machine/Control.lean ====
section
/-!
DEFINITION. Control transfer, stack and flag instructions (spec/44_control_stack_flags.md), BRK and RTI among them.
-/

namespace Sys2Proof.Machine

/-! ## The operations -/

/-- JMP (R242). -/
def jump : Action := fun ea s => (0, jumpTo ea s)

/-- JSR: PC is the advanced one, so the pushed word is the last byte of the JSR (R243). -/
def callSubroutine : Action := fun ea s => (0, jumpTo ea (push16 (s.pc - 1) s))

/-- RTS (R244). -/
def returnSubroutine : Action := plainly fun s =>
  let w := pull16 s
  w.2.setPc (w.1 + 1)

/-- RTI (R245). -/
def returnInterrupt : Action := plainly returnFromBreak

/-- BRK (R246). -/
def break_ : Action := plainly enterBreak

/-- `Branch(cond)` (R247): PC is the advanced one. The relative mode always resolves to an address (R139). -/
def branch (cond : State → Bool) : Action := fun ea s =>
  match ea with
  | .mem t => if cond s then (1 + (if hi8 t = hi8 s.pc then 0 else 1), s.setPc t) else (0, s)
  | .none => (0, s)
  | .acc => (0, s)
  | .imm _ _ => (0, s)

/-- A branch on one flag's value (R248–R255). -/
def branchOn (f : Flag) (on : Bool) : Action := branch fun s => s.flag f == on

/-- PHA (R256). -/
def pushA : Action := plainly fun s => push s.a s
/-- PHP (R257). -/
def pushP : Action := plainly pushStatus
/-- PLA (R258). -/
def pullA : Action := plainly fun s =>
  let v := pull s
  (v.2.setA v.1).setNZ v.1
/-- PLP (R259). -/
def pullP : Action := plainly pullStatus
/-- A write of one flag (R260–R266). -/
def flagTo (f : Flag) (on : Bool) : Action := plainly fun s => s.setFlag f on

/-! ## The meanings -/

/-- 0x4C JMP abs (R242). -/
def execJmpAbs (addr : Word) (s : State) : Host.Outcome State Fault Refusal := runInstr (.jmpAbs addr) jump s

/-- 0x6C JMP (ind) (R242). -/
def execJmpInd (addr : Word) (s : State) : Host.Outcome State Fault Refusal := runInstr (.jmpInd addr) jump s

/-- 0x20 JSR abs (R243). -/
def execJsrAbs (addr : Word) (s : State) : Host.Outcome State Fault Refusal := runInstr (.jsrAbs addr) callSubroutine s

/-- 0x60 RTS implied (R244). -/
def execRts (s : State) : Host.Outcome State Fault Refusal := runInstr .rts returnSubroutine s

/-- 0x40 RTI implied (R245). -/
def execRti (s : State) : Host.Outcome State Fault Refusal := runInstr .rti returnInterrupt s

/-- 0x00 BRK implied (R246). -/
def execBrk (s : State) : Host.Outcome State Fault Refusal := runInstr .brk break_ s

/-- 0x10 BPL rel (R248). -/
def execBpl (off : Byte) (s : State) : Host.Outcome State Fault Refusal := runInstr (.bpl off) (branchOn .n false) s

/-- 0x30 BMI rel (R249). -/
def execBmi (off : Byte) (s : State) : Host.Outcome State Fault Refusal := runInstr (.bmi off) (branchOn .n true) s

/-- 0x50 BVC rel (R250). -/
def execBvc (off : Byte) (s : State) : Host.Outcome State Fault Refusal := runInstr (.bvc off) (branchOn .v false) s

/-- 0x70 BVS rel (R251). -/
def execBvs (off : Byte) (s : State) : Host.Outcome State Fault Refusal := runInstr (.bvs off) (branchOn .v true) s

/-- 0x90 BCC rel (R252). -/
def execBcc (off : Byte) (s : State) : Host.Outcome State Fault Refusal := runInstr (.bcc off) (branchOn .c false) s

/-- 0xB0 BCS rel (R253). -/
def execBcs (off : Byte) (s : State) : Host.Outcome State Fault Refusal := runInstr (.bcs off) (branchOn .c true) s

/-- 0xD0 BNE rel (R254). -/
def execBne (off : Byte) (s : State) : Host.Outcome State Fault Refusal := runInstr (.bne off) (branchOn .z false) s

/-- 0xF0 BEQ rel (R255). -/
def execBeq (off : Byte) (s : State) : Host.Outcome State Fault Refusal := runInstr (.beq off) (branchOn .z true) s

/-- 0x48 PHA implied (R256). -/
def execPha (s : State) : Host.Outcome State Fault Refusal := runInstr .pha pushA s

/-- 0x08 PHP implied (R257). -/
def execPhp (s : State) : Host.Outcome State Fault Refusal := runInstr .php pushP s

/-- 0x68 PLA implied (R258). -/
def execPla (s : State) : Host.Outcome State Fault Refusal := runInstr .pla pullA s

/-- 0x28 PLP implied (R259). -/
def execPlp (s : State) : Host.Outcome State Fault Refusal := runInstr .plp pullP s

/-- 0x18 CLC implied (R260). -/
def execClc (s : State) : Host.Outcome State Fault Refusal := runInstr .clc (flagTo .c false) s

/-- 0x38 SEC implied (R261). -/
def execSec (s : State) : Host.Outcome State Fault Refusal := runInstr .sec (flagTo .c true) s

/-- 0x58 CLI implied (R262). -/
def execCli (s : State) : Host.Outcome State Fault Refusal := runInstr .cli (flagTo .i false) s

/-- 0x78 SEI implied (R263). -/
def execSei (s : State) : Host.Outcome State Fault Refusal := runInstr .sei (flagTo .i true) s

/-- 0xB8 CLV implied (R264). -/
def execClv (s : State) : Host.Outcome State Fault Refusal := runInstr .clv (flagTo .v false) s

/-- 0xD8 CLD implied (R265). -/
def execCld (s : State) : Host.Outcome State Fault Refusal := runInstr .cld (flagTo .d false) s

/-- 0xF8 SED implied (R266). -/
def execSed (s : State) : Host.Outcome State Fault Refusal := runInstr .sed (flagTo .d true) s

end Sys2Proof.Machine
end

