-- ==== Sys2Proof/Machine/Transfer.lean ====
section
/-!
DEFINITION. Loads, stores and register transfers (spec/41_load_store_transfer.md).
-/

namespace Sys2Proof.Machine

/-! ## The operations -/

/-- LDA (R150). -/
def loadA : Action := reading fun v s => (s.setA v).setNZ v
/-- LDX (R151). -/
def loadX : Action := reading fun v s => (s.setX v).setNZ v
/-- LDY (R152). -/
def loadY : Action := reading fun v s => (s.setY v).setNZ v
/-- STA (R153). -/
def storeA : Action := storing fun s => s.a
/-- STX (R154). -/
def storeX : Action := storing fun s => s.x
/-- STY (R155). -/
def storeY : Action := storing fun s => s.y
/-- TAX (R156). -/
def transferAX : Action := plainly fun s => (s.setX s.a).setNZ s.a
/-- TAY (R157). -/
def transferAY : Action := plainly fun s => (s.setY s.a).setNZ s.a
/-- TXA (R158). -/
def transferXA : Action := plainly fun s => (s.setA s.x).setNZ s.x
/-- TYA (R159). -/
def transferYA : Action := plainly fun s => (s.setA s.y).setNZ s.y
/-- TSX (R160). -/
def transferSX : Action := plainly fun s => (s.setX s.sp).setNZ s.sp
/-- TXS: no flag is written (R161). -/
def transferXS : Action := plainly fun s => s.setSp s.x

/-! ## The meanings -/

/-- 0xA1 LDA (zp,X) (R150). -/
def execLdaIndX (zp : Byte) (s : State) : Host.Outcome State Fault Refusal := runInstr (.ldaIndX zp) loadA s

/-- 0xA5 LDA zp (R150). -/
def execLdaZp (zp : Byte) (s : State) : Host.Outcome State Fault Refusal := runInstr (.ldaZp zp) loadA s

/-- 0xA9 LDA # (R150). -/
def execLdaImm (imm : Byte) (s : State) : Host.Outcome State Fault Refusal := runInstr (.ldaImm imm) loadA s

/-- 0xAD LDA abs (R150). -/
def execLdaAbs (addr : Word) (s : State) : Host.Outcome State Fault Refusal := runInstr (.ldaAbs addr) loadA s

/-- 0xB1 LDA (zp),Y (R150). -/
def execLdaIndY (zp : Byte) (s : State) : Host.Outcome State Fault Refusal := runInstr (.ldaIndY zp) loadA s

/-- 0xB5 LDA zp,X (R150). -/
def execLdaZpX (zp : Byte) (s : State) : Host.Outcome State Fault Refusal := runInstr (.ldaZpX zp) loadA s

/-- 0xB9 LDA abs,Y (R150). -/
def execLdaAbsY (addr : Word) (s : State) : Host.Outcome State Fault Refusal := runInstr (.ldaAbsY addr) loadA s

/-- 0xBD LDA abs,X (R150). -/
def execLdaAbsX (addr : Word) (s : State) : Host.Outcome State Fault Refusal := runInstr (.ldaAbsX addr) loadA s

/-- 0xA2 LDX # (R151). -/
def execLdxImm (imm : Byte) (s : State) : Host.Outcome State Fault Refusal := runInstr (.ldxImm imm) loadX s

/-- 0xA6 LDX zp (R151). -/
def execLdxZp (zp : Byte) (s : State) : Host.Outcome State Fault Refusal := runInstr (.ldxZp zp) loadX s

/-- 0xAE LDX abs (R151). -/
def execLdxAbs (addr : Word) (s : State) : Host.Outcome State Fault Refusal := runInstr (.ldxAbs addr) loadX s

/-- 0xB6 LDX zp,Y (R151). -/
def execLdxZpY (zp : Byte) (s : State) : Host.Outcome State Fault Refusal := runInstr (.ldxZpY zp) loadX s

/-- 0xBE LDX abs,Y (R151). -/
def execLdxAbsY (addr : Word) (s : State) : Host.Outcome State Fault Refusal := runInstr (.ldxAbsY addr) loadX s

/-- 0xA0 LDY # (R152). -/
def execLdyImm (imm : Byte) (s : State) : Host.Outcome State Fault Refusal := runInstr (.ldyImm imm) loadY s

/-- 0xA4 LDY zp (R152). -/
def execLdyZp (zp : Byte) (s : State) : Host.Outcome State Fault Refusal := runInstr (.ldyZp zp) loadY s

/-- 0xAC LDY abs (R152). -/
def execLdyAbs (addr : Word) (s : State) : Host.Outcome State Fault Refusal := runInstr (.ldyAbs addr) loadY s

/-- 0xB4 LDY zp,X (R152). -/
def execLdyZpX (zp : Byte) (s : State) : Host.Outcome State Fault Refusal := runInstr (.ldyZpX zp) loadY s

/-- 0xBC LDY abs,X (R152). -/
def execLdyAbsX (addr : Word) (s : State) : Host.Outcome State Fault Refusal := runInstr (.ldyAbsX addr) loadY s

/-- 0x81 STA (zp,X) (R153). -/
def execStaIndX (zp : Byte) (s : State) : Host.Outcome State Fault Refusal := runInstr (.staIndX zp) storeA s

/-- 0x85 STA zp (R153). -/
def execStaZp (zp : Byte) (s : State) : Host.Outcome State Fault Refusal := runInstr (.staZp zp) storeA s

/-- 0x8D STA abs (R153). -/
def execStaAbs (addr : Word) (s : State) : Host.Outcome State Fault Refusal := runInstr (.staAbs addr) storeA s

/-- 0x91 STA (zp),Y (R153). -/
def execStaIndY (zp : Byte) (s : State) : Host.Outcome State Fault Refusal := runInstr (.staIndY zp) storeA s

/-- 0x95 STA zp,X (R153). -/
def execStaZpX (zp : Byte) (s : State) : Host.Outcome State Fault Refusal := runInstr (.staZpX zp) storeA s

/-- 0x99 STA abs,Y (R153). -/
def execStaAbsY (addr : Word) (s : State) : Host.Outcome State Fault Refusal := runInstr (.staAbsY addr) storeA s

/-- 0x9D STA abs,X (R153). -/
def execStaAbsX (addr : Word) (s : State) : Host.Outcome State Fault Refusal := runInstr (.staAbsX addr) storeA s

/-- 0x86 STX zp (R154). -/
def execStxZp (zp : Byte) (s : State) : Host.Outcome State Fault Refusal := runInstr (.stxZp zp) storeX s

/-- 0x8E STX abs (R154). -/
def execStxAbs (addr : Word) (s : State) : Host.Outcome State Fault Refusal := runInstr (.stxAbs addr) storeX s

/-- 0x96 STX zp,Y (R154). -/
def execStxZpY (zp : Byte) (s : State) : Host.Outcome State Fault Refusal := runInstr (.stxZpY zp) storeX s

/-- 0x84 STY zp (R155). -/
def execStyZp (zp : Byte) (s : State) : Host.Outcome State Fault Refusal := runInstr (.styZp zp) storeY s

/-- 0x8C STY abs (R155). -/
def execStyAbs (addr : Word) (s : State) : Host.Outcome State Fault Refusal := runInstr (.styAbs addr) storeY s

/-- 0x94 STY zp,X (R155). -/
def execStyZpX (zp : Byte) (s : State) : Host.Outcome State Fault Refusal := runInstr (.styZpX zp) storeY s

/-- 0xAA TAX implied (R156). -/
def execTax (s : State) : Host.Outcome State Fault Refusal := runInstr .tax transferAX s

/-- 0xA8 TAY implied (R157). -/
def execTay (s : State) : Host.Outcome State Fault Refusal := runInstr .tay transferAY s

/-- 0x8A TXA implied (R158). -/
def execTxa (s : State) : Host.Outcome State Fault Refusal := runInstr .txa transferXA s

/-- 0x98 TYA implied (R159). -/
def execTya (s : State) : Host.Outcome State Fault Refusal := runInstr .tya transferYA s

/-- 0xBA TSX implied (R160). -/
def execTsx (s : State) : Host.Outcome State Fault Refusal := runInstr .tsx transferSX s

/-- 0x9A TXS implied (R161). -/
def execTxs (s : State) : Host.Outcome State Fault Refusal := runInstr .txs transferXS s

end Sys2Proof.Machine
end

