-- ==== Sys2Proof/Machine/Alu.lean ====
section
/-!
DEFINITION. Arithmetic, logic, compare, increment and decrement (spec/42_arithmetic_logic.md).
-/

namespace Sys2Proof.Machine

/-! ## The operations -/

/-- The add of ADC with operand `m` (R184); SBC, ISB and RRA add another operand (R185, R300, R305). -/
def State.addToA (s : State) (m : Byte) : State :=
  let t := addCore s.a m (s.flag .c)
  (((s.setA t.result).setFlag .c t.carry).setFlag .v t.overflow).setNZ t.result

/-- `Compare(reg, m)` (R181). -/
def State.compare (s : State) (reg m : Byte) : State := s.setP (compareFlags reg m s.p)

/-- A write of A with its flags. -/
def State.resultA (s : State) (v : Byte) : State := (s.setA v).setNZ v

/-- ADC (R184). -/
def addCarry : Action := reading fun m s => s.addToA m
/-- SBC (R185, R301). -/
def subCarry : Action := reading fun m s => s.addToA (~~~m)
/-- AND (R186). -/
def andA : Action := reading fun m s => s.resultA (s.a &&& m)
/-- ORA (R187). -/
def orA : Action := reading fun m s => s.resultA (s.a ||| m)
/-- EOR (R188). -/
def eorA : Action := reading fun m s => s.resultA (s.a ^^^ m)
/-- BIT: Z from `A & m`, N and V from bits 7 and 6 of `m` (R189). -/
def bitTest : Action := reading fun m s =>
  ((s.setFlag .z (s.a &&& m == 0)).setFlag .n (m.getLsbD 7)).setFlag .v (m.getLsbD 6)
/-- CMP (R190). -/
def compareA : Action := reading fun m s => s.compare s.a m
/-- CPX (R191). -/
def compareX : Action := reading fun m s => s.compare s.x m
/-- CPY (R192). -/
def compareY : Action := reading fun m s => s.compare s.y m
/-- INC (R193). -/
def incMem : Action := modifying (fun v c => (v + 1, c)) fun r _ s => s.setNZ r
/-- DEC (R194). -/
def decMem : Action := modifying (fun v c => (v - 1, c)) fun r _ s => s.setNZ r
/-- INX (R195). -/
def incX : Action := plainly fun s => (s.setX (s.x + 1)).setNZ (s.x + 1)
/-- INY (R196). -/
def incY : Action := plainly fun s => (s.setY (s.y + 1)).setNZ (s.y + 1)
/-- DEX (R197). -/
def decX : Action := plainly fun s => (s.setX (s.x - 1)).setNZ (s.x - 1)
/-- DEY (R198). -/
def decY : Action := plainly fun s => (s.setY (s.y - 1)).setNZ (s.y - 1)

/-! ## The meanings -/

/-- 0x61 ADC (zp,X) (R184). -/
def execAdcIndX (zp : Byte) (s : State) : Host.Outcome State Fault Refusal := runInstr (.adcIndX zp) addCarry s

/-- 0x65 ADC zp (R184). -/
def execAdcZp (zp : Byte) (s : State) : Host.Outcome State Fault Refusal := runInstr (.adcZp zp) addCarry s

/-- 0x69 ADC # (R184). -/
def execAdcImm (imm : Byte) (s : State) : Host.Outcome State Fault Refusal := runInstr (.adcImm imm) addCarry s

/-- 0x6D ADC abs (R184). -/
def execAdcAbs (addr : Word) (s : State) : Host.Outcome State Fault Refusal := runInstr (.adcAbs addr) addCarry s

/-- 0x71 ADC (zp),Y (R184). -/
def execAdcIndY (zp : Byte) (s : State) : Host.Outcome State Fault Refusal := runInstr (.adcIndY zp) addCarry s

/-- 0x75 ADC zp,X (R184). -/
def execAdcZpX (zp : Byte) (s : State) : Host.Outcome State Fault Refusal := runInstr (.adcZpX zp) addCarry s

/-- 0x79 ADC abs,Y (R184). -/
def execAdcAbsY (addr : Word) (s : State) : Host.Outcome State Fault Refusal := runInstr (.adcAbsY addr) addCarry s

/-- 0x7D ADC abs,X (R184). -/
def execAdcAbsX (addr : Word) (s : State) : Host.Outcome State Fault Refusal := runInstr (.adcAbsX addr) addCarry s

/-- 0xE1 SBC (zp,X) (R185). -/
def execSbcIndX (zp : Byte) (s : State) : Host.Outcome State Fault Refusal := runInstr (.sbcIndX zp) subCarry s

/-- 0xE5 SBC zp (R185). -/
def execSbcZp (zp : Byte) (s : State) : Host.Outcome State Fault Refusal := runInstr (.sbcZp zp) subCarry s

/-- 0xE9 SBC # (R185). -/
def execSbcImm (imm : Byte) (s : State) : Host.Outcome State Fault Refusal := runInstr (.sbcImm imm) subCarry s

/-- 0xEB SBC # (R301). -/
def execSbcImmEB (imm : Byte) (s : State) : Host.Outcome State Fault Refusal := runInstr (.sbcImmEB imm) subCarry s

/-- 0xED SBC abs (R185). -/
def execSbcAbs (addr : Word) (s : State) : Host.Outcome State Fault Refusal := runInstr (.sbcAbs addr) subCarry s

/-- 0xF1 SBC (zp),Y (R185). -/
def execSbcIndY (zp : Byte) (s : State) : Host.Outcome State Fault Refusal := runInstr (.sbcIndY zp) subCarry s

/-- 0xF5 SBC zp,X (R185). -/
def execSbcZpX (zp : Byte) (s : State) : Host.Outcome State Fault Refusal := runInstr (.sbcZpX zp) subCarry s

/-- 0xF9 SBC abs,Y (R185). -/
def execSbcAbsY (addr : Word) (s : State) : Host.Outcome State Fault Refusal := runInstr (.sbcAbsY addr) subCarry s

/-- 0xFD SBC abs,X (R185). -/
def execSbcAbsX (addr : Word) (s : State) : Host.Outcome State Fault Refusal := runInstr (.sbcAbsX addr) subCarry s

/-- 0x21 AND (zp,X) (R186). -/
def execAndIndX (zp : Byte) (s : State) : Host.Outcome State Fault Refusal := runInstr (.andIndX zp) andA s

/-- 0x25 AND zp (R186). -/
def execAndZp (zp : Byte) (s : State) : Host.Outcome State Fault Refusal := runInstr (.andZp zp) andA s

/-- 0x29 AND # (R186). -/
def execAndImm (imm : Byte) (s : State) : Host.Outcome State Fault Refusal := runInstr (.andImm imm) andA s

/-- 0x2D AND abs (R186). -/
def execAndAbs (addr : Word) (s : State) : Host.Outcome State Fault Refusal := runInstr (.andAbs addr) andA s

/-- 0x31 AND (zp),Y (R186). -/
def execAndIndY (zp : Byte) (s : State) : Host.Outcome State Fault Refusal := runInstr (.andIndY zp) andA s

/-- 0x35 AND zp,X (R186). -/
def execAndZpX (zp : Byte) (s : State) : Host.Outcome State Fault Refusal := runInstr (.andZpX zp) andA s

/-- 0x39 AND abs,Y (R186). -/
def execAndAbsY (addr : Word) (s : State) : Host.Outcome State Fault Refusal := runInstr (.andAbsY addr) andA s

/-- 0x3D AND abs,X (R186). -/
def execAndAbsX (addr : Word) (s : State) : Host.Outcome State Fault Refusal := runInstr (.andAbsX addr) andA s

/-- 0x01 ORA (zp,X) (R187). -/
def execOraIndX (zp : Byte) (s : State) : Host.Outcome State Fault Refusal := runInstr (.oraIndX zp) orA s

/-- 0x05 ORA zp (R187). -/
def execOraZp (zp : Byte) (s : State) : Host.Outcome State Fault Refusal := runInstr (.oraZp zp) orA s

/-- 0x09 ORA # (R187). -/
def execOraImm (imm : Byte) (s : State) : Host.Outcome State Fault Refusal := runInstr (.oraImm imm) orA s

/-- 0x0D ORA abs (R187). -/
def execOraAbs (addr : Word) (s : State) : Host.Outcome State Fault Refusal := runInstr (.oraAbs addr) orA s

/-- 0x11 ORA (zp),Y (R187). -/
def execOraIndY (zp : Byte) (s : State) : Host.Outcome State Fault Refusal := runInstr (.oraIndY zp) orA s

/-- 0x15 ORA zp,X (R187). -/
def execOraZpX (zp : Byte) (s : State) : Host.Outcome State Fault Refusal := runInstr (.oraZpX zp) orA s

/-- 0x19 ORA abs,Y (R187). -/
def execOraAbsY (addr : Word) (s : State) : Host.Outcome State Fault Refusal := runInstr (.oraAbsY addr) orA s

/-- 0x1D ORA abs,X (R187). -/
def execOraAbsX (addr : Word) (s : State) : Host.Outcome State Fault Refusal := runInstr (.oraAbsX addr) orA s

/-- 0x41 EOR (zp,X) (R188). -/
def execEorIndX (zp : Byte) (s : State) : Host.Outcome State Fault Refusal := runInstr (.eorIndX zp) eorA s

/-- 0x45 EOR zp (R188). -/
def execEorZp (zp : Byte) (s : State) : Host.Outcome State Fault Refusal := runInstr (.eorZp zp) eorA s

/-- 0x49 EOR # (R188). -/
def execEorImm (imm : Byte) (s : State) : Host.Outcome State Fault Refusal := runInstr (.eorImm imm) eorA s

/-- 0x4D EOR abs (R188). -/
def execEorAbs (addr : Word) (s : State) : Host.Outcome State Fault Refusal := runInstr (.eorAbs addr) eorA s

/-- 0x51 EOR (zp),Y (R188). -/
def execEorIndY (zp : Byte) (s : State) : Host.Outcome State Fault Refusal := runInstr (.eorIndY zp) eorA s

/-- 0x55 EOR zp,X (R188). -/
def execEorZpX (zp : Byte) (s : State) : Host.Outcome State Fault Refusal := runInstr (.eorZpX zp) eorA s

/-- 0x59 EOR abs,Y (R188). -/
def execEorAbsY (addr : Word) (s : State) : Host.Outcome State Fault Refusal := runInstr (.eorAbsY addr) eorA s

/-- 0x5D EOR abs,X (R188). -/
def execEorAbsX (addr : Word) (s : State) : Host.Outcome State Fault Refusal := runInstr (.eorAbsX addr) eorA s

/-- 0x24 BIT zp (R189). -/
def execBitZp (zp : Byte) (s : State) : Host.Outcome State Fault Refusal := runInstr (.bitZp zp) bitTest s

/-- 0x2C BIT abs (R189). -/
def execBitAbs (addr : Word) (s : State) : Host.Outcome State Fault Refusal := runInstr (.bitAbs addr) bitTest s

/-- 0xC1 CMP (zp,X) (R190). -/
def execCmpIndX (zp : Byte) (s : State) : Host.Outcome State Fault Refusal := runInstr (.cmpIndX zp) compareA s

/-- 0xC5 CMP zp (R190). -/
def execCmpZp (zp : Byte) (s : State) : Host.Outcome State Fault Refusal := runInstr (.cmpZp zp) compareA s

/-- 0xC9 CMP # (R190). -/
def execCmpImm (imm : Byte) (s : State) : Host.Outcome State Fault Refusal := runInstr (.cmpImm imm) compareA s

/-- 0xCD CMP abs (R190). -/
def execCmpAbs (addr : Word) (s : State) : Host.Outcome State Fault Refusal := runInstr (.cmpAbs addr) compareA s

/-- 0xD1 CMP (zp),Y (R190). -/
def execCmpIndY (zp : Byte) (s : State) : Host.Outcome State Fault Refusal := runInstr (.cmpIndY zp) compareA s

/-- 0xD5 CMP zp,X (R190). -/
def execCmpZpX (zp : Byte) (s : State) : Host.Outcome State Fault Refusal := runInstr (.cmpZpX zp) compareA s

/-- 0xD9 CMP abs,Y (R190). -/
def execCmpAbsY (addr : Word) (s : State) : Host.Outcome State Fault Refusal := runInstr (.cmpAbsY addr) compareA s

/-- 0xDD CMP abs,X (R190). -/
def execCmpAbsX (addr : Word) (s : State) : Host.Outcome State Fault Refusal := runInstr (.cmpAbsX addr) compareA s

/-- 0xE0 CPX # (R191). -/
def execCpxImm (imm : Byte) (s : State) : Host.Outcome State Fault Refusal := runInstr (.cpxImm imm) compareX s

/-- 0xE4 CPX zp (R191). -/
def execCpxZp (zp : Byte) (s : State) : Host.Outcome State Fault Refusal := runInstr (.cpxZp zp) compareX s

/-- 0xEC CPX abs (R191). -/
def execCpxAbs (addr : Word) (s : State) : Host.Outcome State Fault Refusal := runInstr (.cpxAbs addr) compareX s

/-- 0xC0 CPY # (R192). -/
def execCpyImm (imm : Byte) (s : State) : Host.Outcome State Fault Refusal := runInstr (.cpyImm imm) compareY s

/-- 0xC4 CPY zp (R192). -/
def execCpyZp (zp : Byte) (s : State) : Host.Outcome State Fault Refusal := runInstr (.cpyZp zp) compareY s

/-- 0xCC CPY abs (R192). -/
def execCpyAbs (addr : Word) (s : State) : Host.Outcome State Fault Refusal := runInstr (.cpyAbs addr) compareY s

/-- 0xE6 INC zp (R193). -/
def execIncZp (zp : Byte) (s : State) : Host.Outcome State Fault Refusal := runInstr (.incZp zp) incMem s

/-- 0xEE INC abs (R193). -/
def execIncAbs (addr : Word) (s : State) : Host.Outcome State Fault Refusal := runInstr (.incAbs addr) incMem s

/-- 0xF6 INC zp,X (R193). -/
def execIncZpX (zp : Byte) (s : State) : Host.Outcome State Fault Refusal := runInstr (.incZpX zp) incMem s

/-- 0xFE INC abs,X (R193). -/
def execIncAbsX (addr : Word) (s : State) : Host.Outcome State Fault Refusal := runInstr (.incAbsX addr) incMem s

/-- 0xC6 DEC zp (R194). -/
def execDecZp (zp : Byte) (s : State) : Host.Outcome State Fault Refusal := runInstr (.decZp zp) decMem s

/-- 0xCE DEC abs (R194). -/
def execDecAbs (addr : Word) (s : State) : Host.Outcome State Fault Refusal := runInstr (.decAbs addr) decMem s

/-- 0xD6 DEC zp,X (R194). -/
def execDecZpX (zp : Byte) (s : State) : Host.Outcome State Fault Refusal := runInstr (.decZpX zp) decMem s

/-- 0xDE DEC abs,X (R194). -/
def execDecAbsX (addr : Word) (s : State) : Host.Outcome State Fault Refusal := runInstr (.decAbsX addr) decMem s

/-- 0xE8 INX implied (R195). -/
def execInx (s : State) : Host.Outcome State Fault Refusal := runInstr .inx incX s

/-- 0xC8 INY implied (R196). -/
def execIny (s : State) : Host.Outcome State Fault Refusal := runInstr .iny incY s

/-- 0xCA DEX implied (R197). -/
def execDex (s : State) : Host.Outcome State Fault Refusal := runInstr .dex decX s

/-- 0x88 DEY implied (R198). -/
def execDey (s : State) : Host.Outcome State Fault Refusal := runInstr .dey decY s

end Sys2Proof.Machine
end

