-- ==== Sys2Proof/Machine/Shift.lean ====
section
/-!
DEFINITION. Shifts and rotates, on the accumulator and on memory (spec/43_shift_rotate.md).
-/

namespace Sys2Proof.Machine

/-! ## The operations -/

/-- The flags of the family: C from the bit shifted out, N and Z from the result (R221). -/
def State.shiftFlags (s : State) (r : Byte) (c : Bool) : State := (s.setFlag .c c).setNZ r

/-- ASL (R222). -/
def shiftLeft : Action := modifying (fun v _ => shlF v) fun r c s => s.shiftFlags r c
/-- LSR (R223). -/
def shiftRight : Action := modifying (fun v _ => shrF v) fun r c s => s.shiftFlags r c
/-- ROL (R224). -/
def rotateLeft : Action := modifying rolF fun r c s => s.shiftFlags r c
/-- ROR (R225). -/
def rotateRight : Action := modifying rorF fun r c s => s.shiftFlags r c

/-! ## The meanings -/

/-- 0x06 ASL zp (R222). -/
def execAslZp (zp : Byte) (s : State) : Host.Outcome State Fault Refusal := runInstr (.aslZp zp) shiftLeft s

/-- 0x0A ASL A (R222). -/
def execAslAcc (s : State) : Host.Outcome State Fault Refusal := runInstr .aslAcc shiftLeft s

/-- 0x0E ASL abs (R222). -/
def execAslAbs (addr : Word) (s : State) : Host.Outcome State Fault Refusal := runInstr (.aslAbs addr) shiftLeft s

/-- 0x16 ASL zp,X (R222). -/
def execAslZpX (zp : Byte) (s : State) : Host.Outcome State Fault Refusal := runInstr (.aslZpX zp) shiftLeft s

/-- 0x1E ASL abs,X (R222). -/
def execAslAbsX (addr : Word) (s : State) : Host.Outcome State Fault Refusal := runInstr (.aslAbsX addr) shiftLeft s

/-- 0x46 LSR zp (R223). -/
def execLsrZp (zp : Byte) (s : State) : Host.Outcome State Fault Refusal := runInstr (.lsrZp zp) shiftRight s

/-- 0x4A LSR A (R223). -/
def execLsrAcc (s : State) : Host.Outcome State Fault Refusal := runInstr .lsrAcc shiftRight s

/-- 0x4E LSR abs (R223). -/
def execLsrAbs (addr : Word) (s : State) : Host.Outcome State Fault Refusal := runInstr (.lsrAbs addr) shiftRight s

/-- 0x56 LSR zp,X (R223). -/
def execLsrZpX (zp : Byte) (s : State) : Host.Outcome State Fault Refusal := runInstr (.lsrZpX zp) shiftRight s

/-- 0x5E LSR abs,X (R223). -/
def execLsrAbsX (addr : Word) (s : State) : Host.Outcome State Fault Refusal := runInstr (.lsrAbsX addr) shiftRight s

/-- 0x26 ROL zp (R224). -/
def execRolZp (zp : Byte) (s : State) : Host.Outcome State Fault Refusal := runInstr (.rolZp zp) rotateLeft s

/-- 0x2A ROL A (R224). -/
def execRolAcc (s : State) : Host.Outcome State Fault Refusal := runInstr .rolAcc rotateLeft s

/-- 0x2E ROL abs (R224). -/
def execRolAbs (addr : Word) (s : State) : Host.Outcome State Fault Refusal := runInstr (.rolAbs addr) rotateLeft s

/-- 0x36 ROL zp,X (R224). -/
def execRolZpX (zp : Byte) (s : State) : Host.Outcome State Fault Refusal := runInstr (.rolZpX zp) rotateLeft s

/-- 0x3E ROL abs,X (R224). -/
def execRolAbsX (addr : Word) (s : State) : Host.Outcome State Fault Refusal := runInstr (.rolAbsX addr) rotateLeft s

/-- 0x66 ROR zp (R225). -/
def execRorZp (zp : Byte) (s : State) : Host.Outcome State Fault Refusal := runInstr (.rorZp zp) rotateRight s

/-- 0x6A ROR A (R225). -/
def execRorAcc (s : State) : Host.Outcome State Fault Refusal := runInstr .rorAcc rotateRight s

/-- 0x6E ROR abs (R225). -/
def execRorAbs (addr : Word) (s : State) : Host.Outcome State Fault Refusal := runInstr (.rorAbs addr) rotateRight s

/-- 0x76 ROR zp,X (R225). -/
def execRorZpX (zp : Byte) (s : State) : Host.Outcome State Fault Refusal := runInstr (.rorZpX zp) rotateRight s

/-- 0x7E ROR abs,X (R225). -/
def execRorAbsX (addr : Word) (s : State) : Host.Outcome State Fault Refusal := runInstr (.rorAbsX addr) rotateRight s

end Sys2Proof.Machine
end

