-- ==== Sys2Proof/Machine/Undocumented.lean ====
section
/-!
DEFINITION. The no-operation NOP (spec/44_control_stack_flags.md R267), the 76 undocumented opcode values and the 29
undefined ones (spec/45_undocumented.md).
-/

namespace Sys2Proof.Machine

/-! ## The operations -/

/-- NOP: nothing is read at EA and nothing changes (R267, R290). -/
def noOperation : Action := plainly fun s => s
/-- LAX (R297). -/
def loadAX : Action := reading fun v s => ((s.setA v).setX v).setNZ v
/-- SAX (R298). -/
def storeAX : Action := storing fun s => s.a &&& s.x
/-- DCP (R299). -/
def decCompare : Action := modifying (fun v c => (v - 1, c)) fun r _ s => s.compare s.a r
/-- ISB (R300). -/
def incSub : Action := modifying (fun v c => (v + 1, c)) fun r _ s => s.addToA (~~~r)
/-- SLO (R302). -/
def shiftLeftOr : Action := modifying (fun v _ => shlF v) fun r c s => (s.setFlag .c c).resultA (s.a ||| r)
/-- RLA (R303). -/
def rotateLeftAnd : Action := modifying rolF fun r c s => (s.setFlag .c c).resultA (s.a &&& r)
/-- SRE (R304). -/
def shiftRightEor : Action := modifying (fun v _ => shrF v) fun r c s => (s.setFlag .c c).resultA (s.a ^^^ r)
/-- RRA: the add takes the carry of the rotate (R305). -/
def rotateRightAdd : Action := modifying rorF fun r c s => (s.setFlag .c c).addToA r
/-- An undefined opcode value: the diagnostic, and nothing else (R312, R331). -/
def undefinedOpcode (op : Byte) (pc0 : Word) : Action := plainly (raiseDiagnostic op pc0)

/-! ## The meanings -/

/-- 0x04 NOP zp (R293). -/
def execNopZp04 (zp : Byte) (s : State) : Host.Outcome State Fault Refusal := runInstr (.nopZp04 zp) noOperation s

/-- 0x0C NOP abs (R295). -/
def execNopAbs0C (addr : Word) (s : State) : Host.Outcome State Fault Refusal := runInstr (.nopAbs0C addr) noOperation s

/-- 0x14 NOP zp,X (R294). -/
def execNopZpX14 (zp : Byte) (s : State) : Host.Outcome State Fault Refusal := runInstr (.nopZpX14 zp) noOperation s

/-- 0x1A NOP implied (R291). -/
def execNop1A (s : State) : Host.Outcome State Fault Refusal := runInstr .nop1A noOperation s

/-- 0x1C NOP abs,X (R296). -/
def execNopAbsX1C (addr : Word) (s : State) : Host.Outcome State Fault Refusal := runInstr (.nopAbsX1C addr) noOperation s

/-- 0x34 NOP zp,X (R294). -/
def execNopZpX34 (zp : Byte) (s : State) : Host.Outcome State Fault Refusal := runInstr (.nopZpX34 zp) noOperation s

/-- 0x3A NOP implied (R291). -/
def execNop3A (s : State) : Host.Outcome State Fault Refusal := runInstr .nop3A noOperation s

/-- 0x3C NOP abs,X (R296). -/
def execNopAbsX3C (addr : Word) (s : State) : Host.Outcome State Fault Refusal := runInstr (.nopAbsX3C addr) noOperation s

/-- 0x44 NOP zp (R293). -/
def execNopZp44 (zp : Byte) (s : State) : Host.Outcome State Fault Refusal := runInstr (.nopZp44 zp) noOperation s

/-- 0x54 NOP zp,X (R294). -/
def execNopZpX54 (zp : Byte) (s : State) : Host.Outcome State Fault Refusal := runInstr (.nopZpX54 zp) noOperation s

/-- 0x5A NOP implied (R291). -/
def execNop5A (s : State) : Host.Outcome State Fault Refusal := runInstr .nop5A noOperation s

/-- 0x5C NOP abs,X (R296). -/
def execNopAbsX5C (addr : Word) (s : State) : Host.Outcome State Fault Refusal := runInstr (.nopAbsX5C addr) noOperation s

/-- 0x64 NOP zp (R293). -/
def execNopZp64 (zp : Byte) (s : State) : Host.Outcome State Fault Refusal := runInstr (.nopZp64 zp) noOperation s

/-- 0x74 NOP zp,X (R294). -/
def execNopZpX74 (zp : Byte) (s : State) : Host.Outcome State Fault Refusal := runInstr (.nopZpX74 zp) noOperation s

/-- 0x7A NOP implied (R291). -/
def execNop7A (s : State) : Host.Outcome State Fault Refusal := runInstr .nop7A noOperation s

/-- 0x7C NOP abs,X (R296). -/
def execNopAbsX7C (addr : Word) (s : State) : Host.Outcome State Fault Refusal := runInstr (.nopAbsX7C addr) noOperation s

/-- 0x80 NOP # (R292). -/
def execNopImm80 (s : State) : Host.Outcome State Fault Refusal := runInstr .nopImm80 noOperation s

/-- 0xD4 NOP zp,X (R294). -/
def execNopZpXD4 (zp : Byte) (s : State) : Host.Outcome State Fault Refusal := runInstr (.nopZpXD4 zp) noOperation s

/-- 0xDA NOP implied (R291). -/
def execNopDA (s : State) : Host.Outcome State Fault Refusal := runInstr .nopDA noOperation s

/-- 0xDC NOP abs,X (R296). -/
def execNopAbsXDC (addr : Word) (s : State) : Host.Outcome State Fault Refusal := runInstr (.nopAbsXDC addr) noOperation s

/-- 0xEA NOP implied (R267). -/
def execNop (s : State) : Host.Outcome State Fault Refusal := runInstr .nop noOperation s

/-- 0xF4 NOP zp,X (R294). -/
def execNopZpXF4 (zp : Byte) (s : State) : Host.Outcome State Fault Refusal := runInstr (.nopZpXF4 zp) noOperation s

/-- 0xFA NOP implied (R291). -/
def execNopFA (s : State) : Host.Outcome State Fault Refusal := runInstr .nopFA noOperation s

/-- 0xFC NOP abs,X (R296). -/
def execNopAbsXFC (addr : Word) (s : State) : Host.Outcome State Fault Refusal := runInstr (.nopAbsXFC addr) noOperation s

/-- 0xA3 LAX (zp,X) (R297). -/
def execLaxIndX (zp : Byte) (s : State) : Host.Outcome State Fault Refusal := runInstr (.laxIndX zp) loadAX s

/-- 0xA7 LAX zp (R297). -/
def execLaxZp (zp : Byte) (s : State) : Host.Outcome State Fault Refusal := runInstr (.laxZp zp) loadAX s

/-- 0xAF LAX abs (R297). -/
def execLaxAbs (addr : Word) (s : State) : Host.Outcome State Fault Refusal := runInstr (.laxAbs addr) loadAX s

/-- 0xB3 LAX (zp),Y (R297). -/
def execLaxIndY (zp : Byte) (s : State) : Host.Outcome State Fault Refusal := runInstr (.laxIndY zp) loadAX s

/-- 0xB7 LAX zp,Y (R297). -/
def execLaxZpY (zp : Byte) (s : State) : Host.Outcome State Fault Refusal := runInstr (.laxZpY zp) loadAX s

/-- 0xBF LAX abs,Y (R297). -/
def execLaxAbsY (addr : Word) (s : State) : Host.Outcome State Fault Refusal := runInstr (.laxAbsY addr) loadAX s

/-- 0x83 SAX (zp,X) (R298). -/
def execSaxIndX (zp : Byte) (s : State) : Host.Outcome State Fault Refusal := runInstr (.saxIndX zp) storeAX s

/-- 0x87 SAX zp (R298). -/
def execSaxZp (zp : Byte) (s : State) : Host.Outcome State Fault Refusal := runInstr (.saxZp zp) storeAX s

/-- 0x8F SAX abs (R298). -/
def execSaxAbs (addr : Word) (s : State) : Host.Outcome State Fault Refusal := runInstr (.saxAbs addr) storeAX s

/-- 0x97 SAX zp,Y (R298). -/
def execSaxZpY (zp : Byte) (s : State) : Host.Outcome State Fault Refusal := runInstr (.saxZpY zp) storeAX s

/-- 0xC3 DCP (zp,X) (R299). -/
def execDcpIndX (zp : Byte) (s : State) : Host.Outcome State Fault Refusal := runInstr (.dcpIndX zp) decCompare s

/-- 0xC7 DCP zp (R299). -/
def execDcpZp (zp : Byte) (s : State) : Host.Outcome State Fault Refusal := runInstr (.dcpZp zp) decCompare s

/-- 0xCF DCP abs (R299). -/
def execDcpAbs (addr : Word) (s : State) : Host.Outcome State Fault Refusal := runInstr (.dcpAbs addr) decCompare s

/-- 0xD3 DCP (zp),Y (R299). -/
def execDcpIndY (zp : Byte) (s : State) : Host.Outcome State Fault Refusal := runInstr (.dcpIndY zp) decCompare s

/-- 0xD7 DCP zp,X (R299). -/
def execDcpZpX (zp : Byte) (s : State) : Host.Outcome State Fault Refusal := runInstr (.dcpZpX zp) decCompare s

/-- 0xDB DCP abs,Y (R299). -/
def execDcpAbsY (addr : Word) (s : State) : Host.Outcome State Fault Refusal := runInstr (.dcpAbsY addr) decCompare s

/-- 0xDF DCP abs,X (R299). -/
def execDcpAbsX (addr : Word) (s : State) : Host.Outcome State Fault Refusal := runInstr (.dcpAbsX addr) decCompare s

/-- 0xE3 ISB (zp,X) (R300). -/
def execIsbIndX (zp : Byte) (s : State) : Host.Outcome State Fault Refusal := runInstr (.isbIndX zp) incSub s

/-- 0xE7 ISB zp (R300). -/
def execIsbZp (zp : Byte) (s : State) : Host.Outcome State Fault Refusal := runInstr (.isbZp zp) incSub s

/-- 0xEF ISB abs (R300). -/
def execIsbAbs (addr : Word) (s : State) : Host.Outcome State Fault Refusal := runInstr (.isbAbs addr) incSub s

/-- 0xF3 ISB (zp),Y (R300). -/
def execIsbIndY (zp : Byte) (s : State) : Host.Outcome State Fault Refusal := runInstr (.isbIndY zp) incSub s

/-- 0xF7 ISB zp,X (R300). -/
def execIsbZpX (zp : Byte) (s : State) : Host.Outcome State Fault Refusal := runInstr (.isbZpX zp) incSub s

/-- 0xFB ISB abs,Y (R300). -/
def execIsbAbsY (addr : Word) (s : State) : Host.Outcome State Fault Refusal := runInstr (.isbAbsY addr) incSub s

/-- 0xFF ISB abs,X (R300). -/
def execIsbAbsX (addr : Word) (s : State) : Host.Outcome State Fault Refusal := runInstr (.isbAbsX addr) incSub s

/-- 0x03 SLO (zp,X) (R302). -/
def execSloIndX (zp : Byte) (s : State) : Host.Outcome State Fault Refusal := runInstr (.sloIndX zp) shiftLeftOr s

/-- 0x07 SLO zp (R302). -/
def execSloZp (zp : Byte) (s : State) : Host.Outcome State Fault Refusal := runInstr (.sloZp zp) shiftLeftOr s

/-- 0x0F SLO abs (R302). -/
def execSloAbs (addr : Word) (s : State) : Host.Outcome State Fault Refusal := runInstr (.sloAbs addr) shiftLeftOr s

/-- 0x13 SLO (zp),Y (R302). -/
def execSloIndY (zp : Byte) (s : State) : Host.Outcome State Fault Refusal := runInstr (.sloIndY zp) shiftLeftOr s

/-- 0x17 SLO zp,X (R302). -/
def execSloZpX (zp : Byte) (s : State) : Host.Outcome State Fault Refusal := runInstr (.sloZpX zp) shiftLeftOr s

/-- 0x1B SLO abs,Y (R302). -/
def execSloAbsY (addr : Word) (s : State) : Host.Outcome State Fault Refusal := runInstr (.sloAbsY addr) shiftLeftOr s

/-- 0x1F SLO abs,X (R302). -/
def execSloAbsX (addr : Word) (s : State) : Host.Outcome State Fault Refusal := runInstr (.sloAbsX addr) shiftLeftOr s

/-- 0x23 RLA (zp,X) (R303). -/
def execRlaIndX (zp : Byte) (s : State) : Host.Outcome State Fault Refusal := runInstr (.rlaIndX zp) rotateLeftAnd s

/-- 0x27 RLA zp (R303). -/
def execRlaZp (zp : Byte) (s : State) : Host.Outcome State Fault Refusal := runInstr (.rlaZp zp) rotateLeftAnd s

/-- 0x2F RLA abs (R303). -/
def execRlaAbs (addr : Word) (s : State) : Host.Outcome State Fault Refusal := runInstr (.rlaAbs addr) rotateLeftAnd s

/-- 0x33 RLA (zp),Y (R303). -/
def execRlaIndY (zp : Byte) (s : State) : Host.Outcome State Fault Refusal := runInstr (.rlaIndY zp) rotateLeftAnd s

/-- 0x37 RLA zp,X (R303). -/
def execRlaZpX (zp : Byte) (s : State) : Host.Outcome State Fault Refusal := runInstr (.rlaZpX zp) rotateLeftAnd s

/-- 0x3B RLA abs,Y (R303). -/
def execRlaAbsY (addr : Word) (s : State) : Host.Outcome State Fault Refusal := runInstr (.rlaAbsY addr) rotateLeftAnd s

/-- 0x3F RLA abs,X (R303). -/
def execRlaAbsX (addr : Word) (s : State) : Host.Outcome State Fault Refusal := runInstr (.rlaAbsX addr) rotateLeftAnd s

/-- 0x43 SRE (zp,X) (R304). -/
def execSreIndX (zp : Byte) (s : State) : Host.Outcome State Fault Refusal := runInstr (.sreIndX zp) shiftRightEor s

/-- 0x47 SRE zp (R304). -/
def execSreZp (zp : Byte) (s : State) : Host.Outcome State Fault Refusal := runInstr (.sreZp zp) shiftRightEor s

/-- 0x4F SRE abs (R304). -/
def execSreAbs (addr : Word) (s : State) : Host.Outcome State Fault Refusal := runInstr (.sreAbs addr) shiftRightEor s

/-- 0x53 SRE (zp),Y (R304). -/
def execSreIndY (zp : Byte) (s : State) : Host.Outcome State Fault Refusal := runInstr (.sreIndY zp) shiftRightEor s

/-- 0x57 SRE zp,X (R304). -/
def execSreZpX (zp : Byte) (s : State) : Host.Outcome State Fault Refusal := runInstr (.sreZpX zp) shiftRightEor s

/-- 0x5B SRE abs,Y (R304). -/
def execSreAbsY (addr : Word) (s : State) : Host.Outcome State Fault Refusal := runInstr (.sreAbsY addr) shiftRightEor s

/-- 0x5F SRE abs,X (R304). -/
def execSreAbsX (addr : Word) (s : State) : Host.Outcome State Fault Refusal := runInstr (.sreAbsX addr) shiftRightEor s

/-- 0x63 RRA (zp,X) (R305). -/
def execRraIndX (zp : Byte) (s : State) : Host.Outcome State Fault Refusal := runInstr (.rraIndX zp) rotateRightAdd s

/-- 0x67 RRA zp (R305). -/
def execRraZp (zp : Byte) (s : State) : Host.Outcome State Fault Refusal := runInstr (.rraZp zp) rotateRightAdd s

/-- 0x6F RRA abs (R305). -/
def execRraAbs (addr : Word) (s : State) : Host.Outcome State Fault Refusal := runInstr (.rraAbs addr) rotateRightAdd s

/-- 0x73 RRA (zp),Y (R305). -/
def execRraIndY (zp : Byte) (s : State) : Host.Outcome State Fault Refusal := runInstr (.rraIndY zp) rotateRightAdd s

/-- 0x77 RRA zp,X (R305). -/
def execRraZpX (zp : Byte) (s : State) : Host.Outcome State Fault Refusal := runInstr (.rraZpX zp) rotateRightAdd s

/-- 0x7B RRA abs,Y (R305). -/
def execRraAbsY (addr : Word) (s : State) : Host.Outcome State Fault Refusal := runInstr (.rraAbsY addr) rotateRightAdd s

/-- 0x7F RRA abs,X (R305). -/
def execRraAbsX (addr : Word) (s : State) : Host.Outcome State Fault Refusal := runInstr (.rraAbsX addr) rotateRightAdd s

/-- 0x02 undefined implied (R312). -/
def execUndef02 (s : State) : Host.Outcome State Fault Refusal := runInstr .undef02 (undefinedOpcode 0x02 s.pc) s

/-- 0x0B undefined # (R312). -/
def execUndef0B (s : State) : Host.Outcome State Fault Refusal := runInstr .undef0B (undefinedOpcode 0x0B s.pc) s

/-- 0x12 undefined implied (R312). -/
def execUndef12 (s : State) : Host.Outcome State Fault Refusal := runInstr .undef12 (undefinedOpcode 0x12 s.pc) s

/-- 0x22 undefined implied (R312). -/
def execUndef22 (s : State) : Host.Outcome State Fault Refusal := runInstr .undef22 (undefinedOpcode 0x22 s.pc) s

/-- 0x2B undefined # (R312). -/
def execUndef2B (s : State) : Host.Outcome State Fault Refusal := runInstr .undef2B (undefinedOpcode 0x2B s.pc) s

/-- 0x32 undefined implied (R312). -/
def execUndef32 (s : State) : Host.Outcome State Fault Refusal := runInstr .undef32 (undefinedOpcode 0x32 s.pc) s

/-- 0x42 undefined implied (R312). -/
def execUndef42 (s : State) : Host.Outcome State Fault Refusal := runInstr .undef42 (undefinedOpcode 0x42 s.pc) s

/-- 0x4B undefined # (R312). -/
def execUndef4B (s : State) : Host.Outcome State Fault Refusal := runInstr .undef4B (undefinedOpcode 0x4B s.pc) s

/-- 0x52 undefined implied (R312). -/
def execUndef52 (s : State) : Host.Outcome State Fault Refusal := runInstr .undef52 (undefinedOpcode 0x52 s.pc) s

/-- 0x62 undefined implied (R312). -/
def execUndef62 (s : State) : Host.Outcome State Fault Refusal := runInstr .undef62 (undefinedOpcode 0x62 s.pc) s

/-- 0x6B undefined # (R312). -/
def execUndef6B (s : State) : Host.Outcome State Fault Refusal := runInstr .undef6B (undefinedOpcode 0x6B s.pc) s

/-- 0x72 undefined implied (R312). -/
def execUndef72 (s : State) : Host.Outcome State Fault Refusal := runInstr .undef72 (undefinedOpcode 0x72 s.pc) s

/-- 0x82 undefined # (R312). -/
def execUndef82 (s : State) : Host.Outcome State Fault Refusal := runInstr .undef82 (undefinedOpcode 0x82 s.pc) s

/-- 0x89 undefined # (R312). -/
def execUndef89 (s : State) : Host.Outcome State Fault Refusal := runInstr .undef89 (undefinedOpcode 0x89 s.pc) s

/-- 0x8B undefined # (R312). -/
def execUndef8B (s : State) : Host.Outcome State Fault Refusal := runInstr .undef8B (undefinedOpcode 0x8B s.pc) s

/-- 0x92 undefined implied (R312). -/
def execUndef92 (s : State) : Host.Outcome State Fault Refusal := runInstr .undef92 (undefinedOpcode 0x92 s.pc) s

/-- 0x93 undefined (zp),Y (R312). -/
def execUndef93 (s : State) : Host.Outcome State Fault Refusal := runInstr .undef93 (undefinedOpcode 0x93 s.pc) s

/-- 0x9B undefined abs,Y (R312). -/
def execUndef9B (s : State) : Host.Outcome State Fault Refusal := runInstr .undef9B (undefinedOpcode 0x9B s.pc) s

/-- 0x9C undefined abs,X (R312). -/
def execUndef9C (s : State) : Host.Outcome State Fault Refusal := runInstr .undef9C (undefinedOpcode 0x9C s.pc) s

/-- 0x9E undefined abs,Y (R312). -/
def execUndef9E (s : State) : Host.Outcome State Fault Refusal := runInstr .undef9E (undefinedOpcode 0x9E s.pc) s

/-- 0x9F undefined abs,Y (R312). -/
def execUndef9F (s : State) : Host.Outcome State Fault Refusal := runInstr .undef9F (undefinedOpcode 0x9F s.pc) s

/-- 0xAB undefined # (R312). -/
def execUndefAB (s : State) : Host.Outcome State Fault Refusal := runInstr .undefAB (undefinedOpcode 0xAB s.pc) s

/-- 0xB2 undefined implied (R312). -/
def execUndefB2 (s : State) : Host.Outcome State Fault Refusal := runInstr .undefB2 (undefinedOpcode 0xB2 s.pc) s

/-- 0xBB undefined abs,Y (R312). -/
def execUndefBB (s : State) : Host.Outcome State Fault Refusal := runInstr .undefBB (undefinedOpcode 0xBB s.pc) s

/-- 0xC2 undefined # (R312). -/
def execUndefC2 (s : State) : Host.Outcome State Fault Refusal := runInstr .undefC2 (undefinedOpcode 0xC2 s.pc) s

/-- 0xCB undefined # (R312). -/
def execUndefCB (s : State) : Host.Outcome State Fault Refusal := runInstr .undefCB (undefinedOpcode 0xCB s.pc) s

/-- 0xD2 undefined implied (R312). -/
def execUndefD2 (s : State) : Host.Outcome State Fault Refusal := runInstr .undefD2 (undefinedOpcode 0xD2 s.pc) s

/-- 0xE2 undefined # (R312). -/
def execUndefE2 (s : State) : Host.Outcome State Fault Refusal := runInstr .undefE2 (undefinedOpcode 0xE2 s.pc) s

/-- 0xF2 undefined implied (R312). -/
def execUndefF2 (s : State) : Host.Outcome State Fault Refusal := runInstr .undefF2 (undefinedOpcode 0xF2 s.pc) s

end Sys2Proof.Machine
end

