-- ==== Sys2Proof/Machine/Fetch.lean ====
section
/-!
DEFINITION. Fetching an instruction (spec/40_step_and_addressing.md R121, spec/20_memory.md R75, R78), and placing an
instruction word where the fetch reads it.
-/

namespace Sys2Proof.Machine

/-- The fetch of a step: the opcode at PC, then the operand bytes that its instruction reads, in address order, each by one
bus read (R121, R78). The bytes after the opcode of an undefined value and of NOP 0x80 are not read (R122, R292).
PC is not moved. -/
def fetchInstr (s : State) : Instr × State :=
  let op := busRead s.pc s
  match builderOf op.1 with
  | .bare i => (i, op.2)
  | .byte f =>
    let b1 := busRead (s.pc + 1) op.2
    (f b1.1, b1.2)
  | .word f =>
    let b1 := busRead (s.pc + 1) op.2
    let b2 := busRead (s.pc + 2) b1.2
    (f (wordOf b2.1 b1.1), b2.2)

/-! ## Loading from outside the machine -/

/-- Whether an address is a cell of RAM, save storage or program storage, whose byte a fetch reads back. -/
def storable (addr : Word) : Bool :=
  match busTarget addr with
  | .ram _ => true
  | .save _ => true
  | .program => true
  | .pixel _ => false
  | .audio _ => false
  | .dma => false
  | .input => false
  | .unmapped => false

/-- The state with byte `v` in the cell that `addr` shows, program storage included: the host's load, not a bus write. -/
def placeByte (addr : Word) (v : Byte) (s : State) : State :=
  match busTarget addr with
  | .ram i => s.setRam (Memory.write s.ram i v)
  | .save i => s.setSram (Memory.write s.sram i v)
  | .program => { s with prg := Memory.write s.prg (programIndex s.cfg.prgBanks addr) v }
  | .pixel _ => s
  | .audio _ => s
  | .dma => s
  | .input => s
  | .unmapped => s

/-- Where the next instruction is placed: at PC if the three bytes there are cells, and otherwise, since no fetch from a
peripheral window can be made to read a given byte, at 0x0200 in RAM. Log entry 10. -/
def fetchPlace (s : State) : Word :=
  if storable s.pc && storable (s.pc + 1) && storable (s.pc + 2) then s.pc else 0x0200

/-- The state with the bytes of an instruction placed where the next step fetches them, and running. Log entry 10. -/
def placeInstr (nbits w : Nat) (s : State) : State :=
  let at_ := fetchPlace s
  let b := tableBytes nbits w
  placeByte (at_ + 2) (b.getD 2 0) (placeByte (at_ + 1) (b.getD 1 0) (placeByte at_ (b.getD 0 0)
    ((s.setPc at_).setRun .running)))

end Sys2Proof.Machine
end

