-- ==== Sys2Proof/Machine/Step.lean ====
section
/-!
DEFINITION. The step of the core (spec/40_step_and_addressing.md R120).
-/

namespace Sys2Proof.Machine

/-- One step (R120): the fetch, then the instruction's phases. No step exists unless `RUN = Running` (R45). -/
def step (s : State) : Host.Outcome State Fault Refusal :=
  match s.run with
  | .running => exec (fetchInstr s).1 (fetchInstr s).2
  | .halted => .fault .halted
  | .fatal r => .fault (.fatal r)

/-- `s` with the instruction of a table word stored where step fetches its next instruction. Log entry 10. -/
def State.withFetchWord (s : State) (nbits w : Nat) : State := placeInstr nbits w s

end Sys2Proof.Machine
end

