-- ==== Sys2Proof/Machine/Driver.lean ====
section
/-!
DEFINITION. The host's side of the interface (spec/60_exceptions.md R332, R348–R352) and the conformance launch
(spec/70_reset_and_hazards.md R374). The peripherals are external agents: what one of their steps writes is an argument.
-/

namespace Sys2Proof.Machine

/-- What a step returns (R332). -/
inductive StepResult where
  | cycles (n : Nat)
  | halt (n : Nat)
  | fatal (reason : FatalReason)
  deriving DecidableEq, Repr

/-- `Step()` as its caller sees it: the result and the state after it (R126, R332). From a halted core it answers
`Halt(0)` and changes nothing (spec/95_test_vectors.md P2; log entry 11). `none` stands for a refusal; there is none. -/
def stepResult (s : State) : Option (StepResult × State) :=
  match step s with
  | .next t =>
    match t.run with
    | .running => some (.cycles (t.cyc - s.cyc), t)
    | .halted => some (.halt (t.cyc - s.cyc), t)
    | .fatal r => some (.fatal r, t)
  | .fault .halted => some (.halt 0, s)
  | .fault (.fatal r) => some (.fatal r, s)
  | .refused _ => none

/-- A peripheral agent: the bytes its k-th step since the core's step writes, from what it sees (R350). -/
abbrev Agent := Nat → State → List (Word × Byte)

/-- The pixel unit: an agent, given the part of the cartridge image that is its own (R8). -/
abbrev PixelAgent := PixelImage → Agent

/-- One byte written by a peripheral between steps: only at an address of `PERIPH_WRITABLE`, and only where the bus has a
cell for it, RAM, save storage or the audio bank (R72, R350; log entry 12). No event is recorded. -/
def periphWrite (allowed : List Word) (s : State) (w : Word × Byte) : State :=
  if w.1 ∈ allowed then
    match busTarget w.1 with
    | .ram i => s.setRam (Memory.write s.ram i w.2)
    | .save i => s.setSram (Memory.write s.sram i w.2)
    | .audio i => s.setApu (Memory.write s.apu i w.2)
    | .pixel _ => s
    | .dma => s
    | .input => s
    | .unmapped => s
    | .program => s
  else s

/-- `n` steps of an agent, the first of them its `k`-th. -/
def runAgent (allowed : List Word) (ag : Agent) : Nat → Nat → State → State
  | 0, _, s => s
  | n + 1, k, s => runAgent allowed ag n (k + 1) ((ag k s).foldl (periphWrite allowed) s)

/-- How many audio-unit steps follow a core step of `n` cycles (R349). A step that took none moves nothing. -/
def apuSteps : ApuRatio → Nat → Nat
  | .perStep, n => if n = 0 then 0 else 1
  | .perCycle, n => n
  | .ratio num den, n => n * num / den

/-- The peripherals after a core step of `n` cycles: the pixel unit, with its image, `PPU_RATIO * n` times, then the audio
unit (R8, R350). -/
def runPeripherals (d : DriverConfig) (pixel : PixelAgent) (audio : Agent) (n : Nat) (s : State) : State :=
  runAgent d.periphWritable audio (apuSteps d.apuRatio n) 0
    (runAgent d.periphWritable (pixel d.image) (d.ppuRatio * n) 0 s)

/-- `Advance()` (R348): after a fatal result the peripherals are not advanced. -/
def advance (d : DriverConfig) (pixel : PixelAgent) (audio : Agent) (s : State) : Option (StepResult × State) :=
  match stepResult s with
  | some (.cycles n, t) => some (.cycles n, runPeripherals d pixel audio n t)
  | some (.halt n, t) => some (.halt n, runPeripherals d pixel audio n t)
  | some (.fatal r, t) => some (.fatal r, t)
  | none => none

/-- Calls `Advance` while the cycles spent are below the budget and the last result was `Cycles` (R351). Every step spends
at least one cycle (R126), so `budget` calls are enough. -/
def advanceLoop (d : DriverConfig) (pixel : PixelAgent) (audio : Agent) (budget : Nat) : Nat → Nat → State → Nat × State
  | 0, spent, s => (spent, s)
  | fuel + 1, spent, s =>
    if spent < budget then
      match advance d pixel audio s with
      | some (.cycles n, t) => advanceLoop d pixel audio budget fuel (spent + n) t
      | some (.halt n, t) => (spent + n, t)
      | some (.fatal _, t) => (spent, t)
      | none => (spent, s)
    else (spent, s)

/-- What `AdvanceFor` takes from one call to the next: the debt, and the state. -/
structure DriverState where
  debt : Nat
  core : State
  deriving DecidableEq, Repr

/-- `AdvanceFor(duration)` with the duration `num / den` seconds (R351): the budget is `floor(duration * CORE_HZ)` less
the carried debt, and what the last step spent beyond it is carried or dropped. -/
def advanceFor (d : DriverConfig) (pixel : PixelAgent) (audio : Agent) (num den : Nat) (h : DriverState) : DriverState :=
  let whole := num * d.coreHz / den
  let debt := match d.overshoot with
    | .carry => h.debt
    | .drop => 0
  let budget := whole - debt
  let r := advanceLoop d pixel audio budget budget 0 h.core
  { debt := match d.overshoot with
      | .carry => r.1 + debt - whole
      | .drop => 0
    core := r.2 }

/-- Whether a core has taken no step since its reset: CYC is still `CYC_RESET`, and every step adds to it (R37, R126). -/
def State.unstepped (s : State) : Bool := s.cyc == cycReset

/-- The one write the host may make to a register: PC, before the first step (R352). Once a step has run there is no such
call: `none`. Log entry 21. -/
def overridePc (pc : Word) (s : State) : Option State := if s.unstepped then some (s.setPc pc) else none

/-- The draws that the conformance launch fixes (R374): A, X, Y and the six drawn flags are 0, and there is one bank. -/
def conformanceLaunch (prg sramInit ram apu : Memory) (unmapped : Byte) (sentinel : Option Word) (drawIndex : Nat) :
    Launch where
  a := 0
  x := 0
  y := 0
  c := false
  z := false
  d := false
  b := false
  v := false
  n := false
  ram := ram
  apu := apu
  sramInit := sramInit
  prg := prg
  cfg := { prgBanks := 1, unmappedValue := unmapped, sentinel := sentinel, undef := [] }
  drawIndex := drawIndex

/-- The start of the conformance run: the reset, then `PC <- 0xC000` (R374). No step has run, so it is always a state. -/
def conformanceStart (l : Launch) : Option State := overridePc 0xC000 (State.launch l)

/-- Stepping until the core halts, for at most `n` steps: the halted state, if it is reached. The steps are the core's alone:
with `PERIPH_WRITABLE` empty, its default, no peripheral could change them (R72). -/
def runToHalt : Nat → State → Option State
  | 0, s => if s.run = .halted then some s else none
  | n + 1, s =>
    if s.run = .halted then some s
    else
      match step s with
      | .next t => runToHalt n t
      | .fault _ => none
      | .refused _ => none

/-- The conformance run (R374): from its start "until a return-to-sentinel-address condition is hit". -/
def conformanceRun (n : Nat) (l : Launch) : Option State := (conformanceStart l).bind (runToHalt n)

/-- The two-byte result code at 0x0002–0x0003, read by Peek (R374, R375). -/
def resultCode (s : State) : Word := wordOf (s.peek 0x0003) (s.peek 0x0002)

/-- The end state of a passing run (R375): `RUN = Halted`, `DIAG = []` and both bytes of the result code 0x00. -/
def conformancePassed (s : State) : Bool :=
  decide (s.run = .halted) && s.diag.isEmpty && s.peek 0x0002 == 0x00 && s.peek 0x0003 == 0x00

/-- A launch passes when its run halts, after however many steps, in a passing end state (R375). -/
def ConformancePasses (l : Launch) : Prop := ∃ n t, conformanceRun n l = some t ∧ conformancePassed t = true

/-- Where an RTS that pops the two bytes above the launch stack returns to: `Peek(0x01FF):Peek(0x01FE) + 1` at launch
(R375). -/
def returnAtLaunch (l : Launch) : Word :=
  wordOf ((State.launch l).peek 0x01FF) ((State.launch l).peek 0x01FE) + 1

/-- The launch of a harness that sets `SENTINEL` to the address that RTS returns to (R375). -/
def Launch.haltingAtReturn (l : Launch) : Launch :=
  { l with cfg := { l.cfg with sentinel := some (returnAtLaunch l) } }

/-- The launch of a harness that wants a fixed address `w`: it writes those two bytes before the first step (R375). -/
def Launch.haltingAt (w : Word) (l : Launch) : Launch :=
  { l with
    ram := Memory.write (Memory.write l.ram 0x1FE (lo8 (w - 1))) 0x1FF (hi8 (w - 1))
    cfg := { l.cfg with sentinel := some w } }

end Sys2Proof.Machine
end

