-- ==== Sys2Proof/Machine/Trace.lean ====
section
/-!
DEFINITION. The debug trace as the record of its fields (spec/60_exceptions.md R344, R345): a pure projection that reads
memory through Peek. The text layout of the line is out of scope (spec/00_scope.md R5, R346).
-/

namespace Sys2Proof.Machine

/-- The mnemonic as the table spells it (R99, R107). -/
def mnemonicText : Mnemonic → String
  | .adc => "ADC"
  | .and => "AND"
  | .asl => "ASL"
  | .bcc => "BCC"
  | .bcs => "BCS"
  | .beq => "BEQ"
  | .bit => "BIT"
  | .bmi => "BMI"
  | .bne => "BNE"
  | .bpl => "BPL"
  | .brk => "BRK"
  | .bvc => "BVC"
  | .bvs => "BVS"
  | .clc => "CLC"
  | .cld => "CLD"
  | .cli => "CLI"
  | .clv => "CLV"
  | .cmp => "CMP"
  | .cpx => "CPX"
  | .cpy => "CPY"
  | .dcp => "DCP"
  | .dec => "DEC"
  | .dex => "DEX"
  | .dey => "DEY"
  | .eor => "EOR"
  | .inc => "INC"
  | .inx => "INX"
  | .iny => "INY"
  | .isb => "ISB"
  | .jmp => "JMP"
  | .jsr => "JSR"
  | .lax => "LAX"
  | .lda => "LDA"
  | .ldx => "LDX"
  | .ldy => "LDY"
  | .lsr => "LSR"
  | .nop => "NOP"
  | .ora => "ORA"
  | .pha => "PHA"
  | .php => "PHP"
  | .pla => "PLA"
  | .plp => "PLP"
  | .rla => "RLA"
  | .rol => "ROL"
  | .ror => "ROR"
  | .rra => "RRA"
  | .rti => "RTI"
  | .rts => "RTS"
  | .sax => "SAX"
  | .sbc => "SBC"
  | .sec => "SEC"
  | .sed => "SED"
  | .sei => "SEI"
  | .slo => "SLO"
  | .sre => "SRE"
  | .sta => "STA"
  | .stx => "STX"
  | .sty => "STY"
  | .tax => "TAX"
  | .tay => "TAY"
  | .tsx => "TSX"
  | .txa => "TXA"
  | .txs => "TXS"
  | .tya => "TYA"
  | .undefined => "(undefined)"

/-- `Read16PW` by Peek. -/
def State.peek16PW (s : State) (a : Word) : Word := wordOf (s.peek (nextInPage a)) (s.peek a)

/-- The effective address that the annotation shows, with every pointer read made by Peek (R345). -/
def peekEA (m : AddrMode) (s : State) : EA :=
  match m with
  | .indirect w => .mem (s.peek16PW w)
  | .indexedIndirect b => .mem (s.peek16PW (zext16 (b + s.x)))
  | .indirectIndexed b => .mem (s.peek16PW (zext16 b) + zext16 s.y)
  | m => (resolve m s).ea

/-- What the annotation shows as the operand (R344). -/
inductive Annotation where
  | none
  /-- "the literal token for accumulator": no value. -/
  | accumulatorToken
  | value (v : Byte)
  deriving DecidableEq, Repr

/-- What the annotation shows at an effective address (R344, R345): the token for the accumulator, the byte of an immediate,
the byte at an absolute address. R344 gives these three examples, and which other modes show a value is open (R346, D30): here
every mode that resolves to an address shows the byte there, the targets of branches and jumps included. DESIGN CHOICE, unsafe
for a claim about the trace's text (log entry 19). -/
def peekOperand (ea : EA) (s : State) : Annotation :=
  match ea with
  | .none => .none
  | .acc => .accumulatorToken
  | .imm _ v => .value v
  | .mem a => .value (s.peek a)

/-- The fields of a trace line, in the order of R344. -/
structure TraceLine where
  pc       : Word
  bytes    : List Byte
  mnemonic : String
  operand  : AddrMode
  ea       : EA
  shown    : Annotation
  a        : Byte
  x        : Byte
  y        : Byte
  p        : Byte
  sp       : Byte
  ppu      : Nat × Nat
  deriving DecidableEq, Repr

/-- The instruction that Peek shows at PC. -/
def State.peekInstr (s : State) : Instr := decodeOp (s.peek s.pc) (s.peek (s.pc + 1)) (s.peek (s.pc + 2))

/-- `Trace(state)` (R344): the state before the step is its only argument, and it changes nothing (R345). -/
def trace (s : State) : TraceLine :=
  let i := s.peekInstr
  { pc := s.pc
    bytes := (List.range (instrLen s.cfg i)).map fun k => s.peek (s.pc + BitVec.ofNat 16 k)
    mnemonic := mnemonicText i.mnemonic
    operand := i.addrMode
    ea := peekEA i.addrMode s
    shown := peekOperand (peekEA i.addrMode s) s
    a := s.a
    x := s.x
    y := s.y
    p := s.p
    sp := s.sp
    ppu := Config.ppuField s.cyc }

end Sys2Proof.Machine
end

