-- ==== Sys2Proof/Safety.lean ====
section
/-!
DEFINITION. The terms claims use: the invariant of a core, what a clean run is (spec/60_exceptions.md R331), and what an
instruction reads, stores, records and leaves alone.
-/

namespace Sys2Proof.Machine

/-! ## Whole states -/

/-- What holds of a core in every state that a valid launch leads to: the unused flag is set (R28), the arrays are canonical
and within the sizes the spec gives (R40–R43), and the configuration is valid (D36). -/
def State.inv (s : State) : Bool :=
  getFlag s.p .u && Memory.wf ramSize s.ram && Memory.wf sramSize s.sram && Memory.wf apuSize s.apu
    && Memory.wf (s.cfg.prgBanks * bankSize) s.prg && s.cfg.valid

/-- The premise of a claim that a program behaves as the 6502 does (R331): no undefined opcode value has run. -/
def State.clean (s : State) : Bool := s.diag.isEmpty

/-! ## What an instruction reads -/

/-- The effective address of an instruction (R122). -/
def eaOf (i : Instr) (s : State) : EA := (resolve i.addrMode s).ea

/-- The operand value of an instruction (R141). -/
def operandOf (i : Instr) (s : State) : Byte := (operand (eaOf i s) (resolve i.addrMode s).state).1

/-- Whether the addressing mode crossed a page (R140). -/
def crossedOf (i : Instr) (s : State) : Bool := (resolve i.addrMode s).crossed

/-! ## What it records -/

/-- The address that an event records: the pixel register, or the address itself (R77). -/
def recordedAddr (a : Word) : Word := if a < 0x4000 then 0x2000 ||| (a &&& 0x0007) else a

/-- The events of one access (R77): one entry for an address in 0x2000–0x5FFF, and none for the others. -/
def eventOf (k : EventKind) (a : Word) (v : Byte) : List Event :=
  if 0x2000 ≤ a ∧ a < 0x6000 then [⟨k, recordedAddr a, v⟩] else []

/-- The events of one access at an effective address: the accumulator and the immediate byte make none. -/
def eventAt (k : EventKind) (ea : EA) (v : Byte) : List Event :=
  match ea with
  | .none => []
  | .acc => []
  | .imm _ _ => []
  | .mem a => eventOf k a v

/-! ## What it leaves alone -/

/-- Whether two addresses show one cell of RAM or save storage (R52, R58). -/
def sameCell (a b : Word) : Bool :=
  match busTarget a, busTarget b with
  | .ram i, .ram j => i == j
  | .save i, .save j => i == j
  | _, _ => false

/-- No byte of memory changed: every address reads as before, and so does the audio bank, which no address reads. -/
def MemoryKept (s t : State) : Prop := (∀ b, t.peek b = s.peek b) ∧ t.apu = s.apu

/-- One byte `v` was stored at address `a` and no other: the addresses that show its cell read `v`, every other address
reads as before, and of the audio bank at most the entry that `a` names changed (R52–R60). -/
def MemoryStored (s t : State) (a : Word) (v : Byte) : Prop :=
  (∀ b, t.peek b = if sameCell a b then v else s.peek b)
    ∧ ∀ k, Memory.read t.apu k = if busTarget a = .audio k then v else Memory.read s.apu k

/-- Every flag but the listed ones is as before (R29). -/
def FlagsKept (s t : State) (written : List Flag) : Prop := ∀ f, f ∉ written → t.flag f = s.flag f

/-- N and Z are those of a byte (R142). -/
def NZof (t : State) (v : Byte) : Prop := t.flag .z = (v == 0) ∧ t.flag .n = v.getLsbD 7

/-- The records and the configuration are as before: DIAG, RUN, PRG and the rest of the configuration. -/
def RecordsKept (s t : State) : Prop := t.diag = s.diag ∧ t.run = s.run ∧ t.prg = s.prg ∧ t.cfg = s.cfg

/-- A, X, Y and SP are as before. -/
def RegistersKept (s t : State) : Prop := t.a = s.a ∧ t.x = s.x ∧ t.y = s.y ∧ t.sp = s.sp

/-- PC is the address after the instruction (R123), and CYC grew by the base cycles and the page penalty (R124). -/
def NextInLine (i : Instr) (s t : State) : Prop :=
  t.pc = s.pc + BitVec.ofNat 16 (instrLen s.cfg i) ∧ t.cyc = s.cyc + accounted s.cfg i (crossedOf i s)

/-- An instruction as the rules' Encoding lines write it: its opcode value, the mode that the step resolves, and the length,
base cycles and page penalty of its descriptor (R92). -/
def rowOf (i : Instr) : Byte × Mode × Nat × Nat × Nat :=
  (i.opcode, i.addrMode.kind, i.desc.len, i.desc.cycles, i.desc.penalty)

/-- Whether a branch's condition holds (R248–R255). -/
def branchTaken (m : Mnemonic) (s : State) : Bool :=
  match m with
  | .bpl => !s.flag .n
  | .bmi => s.flag .n
  | .bvc => !s.flag .v
  | .bvs => s.flag .v
  | .bcc => !s.flag .c
  | .bcs => s.flag .c
  | .bne => !s.flag .z
  | .beq => s.flag .z
  | _ => false

end Sys2Proof.Machine
end

