-- ==== Sys2Proof/Certificates/Slice0/Obligations.lean ====
section
/-!
DEFINITION. The statements for the provers. Each is a proposition about every state, not only about those that a run
reaches. `rowsOf` transcribes the Encoding lines of the rules in spec/41_ to 45_, and the statements of an instruction's
meaning say that the opcode map agrees with them.
-/

open Sys2Proof Sys2Proof.Machine

namespace Sys2Proof.Claims

/-- The Encoding lines of a mnemonic's rule: opcode value, mode, length, base cycles, page penalty. An undefined opcode
value has none (R312): Obligations.UndefinedOpcodesRecordADiagnostic lists those. -/
def rowsOf : Mnemonic → List (Byte × Mode × Nat × Nat × Nat)
  | .adc => [(0x69, .immediate, 2, 2, 0), (0x65, .zeroPage, 2, 3, 0), (0x75, .zeroPageX, 2, 4, 0),
      (0x6D, .absolute, 3, 4, 0), (0x7D, .absoluteX, 3, 4, 1), (0x79, .absoluteY, 3, 4, 1),
      (0x61, .indexedIndirect, 2, 6, 0), (0x71, .indirectIndexed, 2, 5, 1)]
  | .and => [(0x29, .immediate, 2, 2, 0), (0x25, .zeroPage, 2, 3, 0), (0x35, .zeroPageX, 2, 4, 0),
      (0x2D, .absolute, 3, 4, 0), (0x3D, .absoluteX, 3, 4, 1), (0x39, .absoluteY, 3, 4, 1),
      (0x21, .indexedIndirect, 2, 6, 0), (0x31, .indirectIndexed, 2, 5, 1)]
  | .asl => [(0x0A, .accumulator, 1, 2, 0), (0x06, .zeroPage, 2, 5, 0), (0x16, .zeroPageX, 2, 6, 0),
      (0x0E, .absolute, 3, 6, 0), (0x1E, .absoluteX, 3, 7, 0)]
  | .bcc => [(0x90, .relative, 2, 2, 0)]
  | .bcs => [(0xB0, .relative, 2, 2, 0)]
  | .beq => [(0xF0, .relative, 2, 2, 0)]
  | .bit => [(0x24, .zeroPage, 2, 3, 0), (0x2C, .absolute, 3, 4, 0)]
  | .bmi => [(0x30, .relative, 2, 2, 0)]
  | .bne => [(0xD0, .relative, 2, 2, 0)]
  | .bpl => [(0x10, .relative, 2, 2, 0)]
  | .brk => [(0x00, .implied, 1, 7, 0)]
  | .bvc => [(0x50, .relative, 2, 2, 0)]
  | .bvs => [(0x70, .relative, 2, 2, 0)]
  | .clc => [(0x18, .implied, 1, 2, 0)]
  | .cld => [(0xD8, .implied, 1, 2, 0)]
  | .cli => [(0x58, .implied, 1, 2, 0)]
  | .clv => [(0xB8, .implied, 1, 2, 0)]
  | .cmp => [(0xC9, .immediate, 2, 2, 0), (0xC5, .zeroPage, 2, 3, 0), (0xD5, .zeroPageX, 2, 4, 0),
      (0xCD, .absolute, 3, 4, 0), (0xDD, .absoluteX, 3, 4, 1), (0xD9, .absoluteY, 3, 4, 1),
      (0xC1, .indexedIndirect, 2, 6, 0), (0xD1, .indirectIndexed, 2, 5, 1)]
  | .cpx => [(0xE0, .immediate, 2, 2, 0), (0xE4, .zeroPage, 2, 3, 0), (0xEC, .absolute, 3, 4, 0)]
  | .cpy => [(0xC0, .immediate, 2, 2, 0), (0xC4, .zeroPage, 2, 3, 0), (0xCC, .absolute, 3, 4, 0)]
  | .dcp => [(0xC7, .zeroPage, 2, 5, 0), (0xD7, .zeroPageX, 2, 6, 0), (0xCF, .absolute, 3, 6, 0),
      (0xDF, .absoluteX, 3, 7, 0), (0xDB, .absoluteY, 3, 7, 0), (0xC3, .indexedIndirect, 2, 8, 0),
      (0xD3, .indirectIndexed, 2, 8, 0)]
  | .dec => [(0xC6, .zeroPage, 2, 5, 0), (0xD6, .zeroPageX, 2, 6, 0), (0xCE, .absolute, 3, 6, 0),
      (0xDE, .absoluteX, 3, 7, 0)]
  | .dex => [(0xCA, .implied, 1, 2, 0)]
  | .dey => [(0x88, .implied, 1, 2, 0)]
  | .eor => [(0x49, .immediate, 2, 2, 0), (0x45, .zeroPage, 2, 3, 0), (0x55, .zeroPageX, 2, 4, 0),
      (0x4D, .absolute, 3, 4, 0), (0x5D, .absoluteX, 3, 4, 1), (0x59, .absoluteY, 3, 4, 1),
      (0x41, .indexedIndirect, 2, 6, 0), (0x51, .indirectIndexed, 2, 5, 1)]
  | .inc => [(0xE6, .zeroPage, 2, 5, 0), (0xF6, .zeroPageX, 2, 6, 0), (0xEE, .absolute, 3, 6, 0),
      (0xFE, .absoluteX, 3, 7, 0)]
  | .inx => [(0xE8, .implied, 1, 2, 0)]
  | .iny => [(0xC8, .implied, 1, 2, 0)]
  | .isb => [(0xE7, .zeroPage, 2, 5, 0), (0xF7, .zeroPageX, 2, 6, 0), (0xEF, .absolute, 3, 6, 0),
      (0xFF, .absoluteX, 3, 7, 0), (0xFB, .absoluteY, 3, 7, 0), (0xE3, .indexedIndirect, 2, 8, 0),
      (0xF3, .indirectIndexed, 2, 8, 0)]
  | .jmp => [(0x4C, .absolute, 3, 3, 0), (0x6C, .indirect, 3, 5, 0)]
  | .jsr => [(0x20, .absolute, 3, 6, 0)]
  | .lax => [(0xA7, .zeroPage, 2, 3, 0), (0xB7, .zeroPageY, 2, 4, 0), (0xAF, .absolute, 3, 4, 0),
      (0xBF, .absoluteY, 3, 4, 1), (0xA3, .indexedIndirect, 2, 6, 0), (0xB3, .indirectIndexed, 2, 5, 1)]
  | .lda => [(0xA9, .immediate, 2, 2, 0), (0xA5, .zeroPage, 2, 3, 0), (0xB5, .zeroPageX, 2, 4, 0),
      (0xAD, .absolute, 3, 4, 0), (0xBD, .absoluteX, 3, 4, 1), (0xB9, .absoluteY, 3, 4, 1),
      (0xA1, .indexedIndirect, 2, 6, 0), (0xB1, .indirectIndexed, 2, 5, 1)]
  | .ldx => [(0xA2, .immediate, 2, 2, 0), (0xA6, .zeroPage, 2, 3, 0), (0xB6, .zeroPageY, 2, 4, 0),
      (0xAE, .absolute, 3, 4, 0), (0xBE, .absoluteY, 3, 4, 1)]
  | .ldy => [(0xA0, .immediate, 2, 2, 0), (0xA4, .zeroPage, 2, 3, 0), (0xB4, .zeroPageX, 2, 4, 0),
      (0xAC, .absolute, 3, 4, 0), (0xBC, .absoluteX, 3, 4, 1)]
  | .lsr => [(0x4A, .accumulator, 1, 2, 0), (0x46, .zeroPage, 2, 5, 0), (0x56, .zeroPageX, 2, 6, 0),
      (0x4E, .absolute, 3, 6, 0), (0x5E, .absoluteX, 3, 7, 0)]
  | .nop => [(0xEA, .implied, 1, 2, 0), (0x1A, .implied, 1, 2, 0), (0x3A, .implied, 1, 2, 0),
      (0x5A, .implied, 1, 2, 0), (0x7A, .implied, 1, 2, 0), (0xDA, .implied, 1, 2, 0), (0xFA, .implied, 1, 2, 0),
      (0x80, .immediate, 2, 2, 0), (0x04, .zeroPage, 2, 3, 0), (0x44, .zeroPage, 2, 3, 0),
      (0x64, .zeroPage, 2, 3, 0), (0x14, .zeroPageX, 2, 4, 0), (0x34, .zeroPageX, 2, 4, 0),
      (0x54, .zeroPageX, 2, 4, 0), (0x74, .zeroPageX, 2, 4, 0), (0xD4, .zeroPageX, 2, 4, 0),
      (0xF4, .zeroPageX, 2, 4, 0), (0x0C, .absolute, 3, 4, 0), (0x1C, .absoluteX, 3, 4, 1),
      (0x3C, .absoluteX, 3, 4, 1), (0x5C, .absoluteX, 3, 4, 1), (0x7C, .absoluteX, 3, 4, 1),
      (0xDC, .absoluteX, 3, 4, 1), (0xFC, .absoluteX, 3, 4, 1)]
  | .ora => [(0x09, .immediate, 2, 2, 0), (0x05, .zeroPage, 2, 3, 0), (0x15, .zeroPageX, 2, 4, 0),
      (0x0D, .absolute, 3, 4, 0), (0x1D, .absoluteX, 3, 4, 1), (0x19, .absoluteY, 3, 4, 1),
      (0x01, .indexedIndirect, 2, 6, 0), (0x11, .indirectIndexed, 2, 5, 1)]
  | .pha => [(0x48, .implied, 1, 3, 0)]
  | .php => [(0x08, .implied, 1, 3, 0)]
  | .pla => [(0x68, .implied, 1, 4, 0)]
  | .plp => [(0x28, .implied, 1, 4, 0)]
  | .rla => [(0x27, .zeroPage, 2, 5, 0), (0x37, .zeroPageX, 2, 6, 0), (0x2F, .absolute, 3, 6, 0),
      (0x3F, .absoluteX, 3, 7, 0), (0x3B, .absoluteY, 3, 7, 0), (0x23, .indexedIndirect, 2, 8, 0),
      (0x33, .indirectIndexed, 2, 8, 0)]
  | .rol => [(0x2A, .accumulator, 1, 2, 0), (0x26, .zeroPage, 2, 5, 0), (0x36, .zeroPageX, 2, 6, 0),
      (0x2E, .absolute, 3, 6, 0), (0x3E, .absoluteX, 3, 7, 0)]
  | .ror => [(0x6A, .accumulator, 1, 2, 0), (0x66, .zeroPage, 2, 5, 0), (0x76, .zeroPageX, 2, 6, 0),
      (0x6E, .absolute, 3, 6, 0), (0x7E, .absoluteX, 3, 7, 0)]
  | .rra => [(0x67, .zeroPage, 2, 5, 0), (0x77, .zeroPageX, 2, 6, 0), (0x6F, .absolute, 3, 6, 0),
      (0x7F, .absoluteX, 3, 7, 0), (0x7B, .absoluteY, 3, 7, 0), (0x63, .indexedIndirect, 2, 8, 0),
      (0x73, .indirectIndexed, 2, 8, 0)]
  | .rti => [(0x40, .implied, 1, 6, 0)]
  | .rts => [(0x60, .implied, 1, 6, 0)]
  | .sax => [(0x87, .zeroPage, 2, 3, 0), (0x97, .zeroPageY, 2, 4, 0), (0x8F, .absolute, 3, 4, 0),
      (0x83, .indexedIndirect, 2, 6, 0)]
  | .sbc => [(0xE9, .immediate, 2, 2, 0), (0xE5, .zeroPage, 2, 3, 0), (0xF5, .zeroPageX, 2, 4, 0),
      (0xED, .absolute, 3, 4, 0), (0xFD, .absoluteX, 3, 4, 1), (0xF9, .absoluteY, 3, 4, 1),
      (0xE1, .indexedIndirect, 2, 6, 0), (0xF1, .indirectIndexed, 2, 5, 1), (0xEB, .immediate, 2, 2, 0)]
  | .sec => [(0x38, .implied, 1, 2, 0)]
  | .sed => [(0xF8, .implied, 1, 2, 0)]
  | .sei => [(0x78, .implied, 1, 2, 0)]
  | .slo => [(0x07, .zeroPage, 2, 5, 0), (0x17, .zeroPageX, 2, 6, 0), (0x0F, .absolute, 3, 6, 0),
      (0x1F, .absoluteX, 3, 7, 0), (0x1B, .absoluteY, 3, 7, 0), (0x03, .indexedIndirect, 2, 8, 0),
      (0x13, .indirectIndexed, 2, 8, 0)]
  | .sre => [(0x47, .zeroPage, 2, 5, 0), (0x57, .zeroPageX, 2, 6, 0), (0x4F, .absolute, 3, 6, 0),
      (0x5F, .absoluteX, 3, 7, 0), (0x5B, .absoluteY, 3, 7, 0), (0x43, .indexedIndirect, 2, 8, 0),
      (0x53, .indirectIndexed, 2, 8, 0)]
  | .sta => [(0x85, .zeroPage, 2, 3, 0), (0x95, .zeroPageX, 2, 4, 0), (0x8D, .absolute, 3, 4, 0),
      (0x9D, .absoluteX, 3, 5, 0), (0x99, .absoluteY, 3, 5, 0), (0x81, .indexedIndirect, 2, 6, 0),
      (0x91, .indirectIndexed, 2, 6, 0)]
  | .stx => [(0x86, .zeroPage, 2, 3, 0), (0x96, .zeroPageY, 2, 4, 0), (0x8E, .absolute, 3, 4, 0)]
  | .sty => [(0x84, .zeroPage, 2, 3, 0), (0x94, .zeroPageX, 2, 4, 0), (0x8C, .absolute, 3, 4, 0)]
  | .tax => [(0xAA, .implied, 1, 2, 0)]
  | .tay => [(0xA8, .implied, 1, 2, 0)]
  | .tsx => [(0xBA, .implied, 1, 2, 0)]
  | .txa => [(0x8A, .implied, 1, 2, 0)]
  | .txs => [(0x9A, .implied, 1, 2, 0)]
  | .tya => [(0x98, .implied, 1, 2, 0)]
  | .undefined => []

/-- The Encoding lines of a mnemonic's rule: each instruction of the mnemonic is encoded as one of them says, with the mode
that its step resolves, and each of them is an instruction's. -/
def EncodedAs (m : Mnemonic) : Prop :=
  (∀ i : Instr, i.mnemonic = m → rowOf i ∈ rowsOf m) ∧ ∀ row ∈ rowsOf m, ∃ i : Instr, i.mnemonic = m ∧ rowOf i = row

/-- The 29 undefined opcode values with the default `UNDEF_LEN` and `UNDEF_CYC` (R104, R312). -/
def undefinedDefaults : List (Byte × Nat × Nat) :=
  ([0x02, 0x12, 0x22, 0x32, 0x42, 0x52, 0x62, 0x72, 0x92, 0xB2, 0xD2, 0xF2] : List Byte).map (fun op => (op, 1, 2))
    ++ ([0x0B, 0x2B, 0x4B, 0x6B, 0x8B, 0xAB, 0xCB, 0x82, 0x89, 0xC2, 0xE2] : List Byte).map (fun op => (op, 2, 2))
    ++ [(0x93, 2, 6), (0x9F, 3, 5), (0x9B, 3, 5), (0x9C, 3, 5), (0x9E, 3, 5), (0xBB, 3, 4)]

/-- The opcode values that take the page penalty (R95). -/
def penaltyOpcodes : List Byte :=
  [0x11, 0x19, 0x1C, 0x1D, 0x31, 0x39, 0x3C, 0x3D, 0x51, 0x59, 0x5C, 0x5D, 0x71, 0x79, 0x7C, 0x7D, 0xB1, 0xB3, 0xB9, 0xBC,
   0xBD, 0xBE, 0xBF, 0xD1, 0xD9, 0xDC, 0xDD, 0xF1, 0xF9, 0xFC, 0xFD]

/-- The opcode values of a class. -/
def opcodesOf (c : OpClass) : List Nat := (List.range 256).filter fun n => (descOf (BitVec.ofNat 8 n)).cls == c

/-- The byte that memory shows at a zero-page offset. -/
def zeroPageByte (s : State) (n : Nat) : Byte := s.peek (BitVec.ofNat 16 (n % 256))

/-- The result of pushing the bytes of a list, the first one first (R143). -/
def pushAll (bs : List Byte) (s : State) : State := bs.foldl (fun t b => push b t) s

/-- Running an instruction `n` times in a row, when it answers a next state each time. -/
def repeatExec (i : Instr) : Nat → State → Option State
  | 0, s => some s
  | n + 1, s =>
    match exec i s with
    | .next t => repeatExec i n t
    | .fault _ => none
    | .refused _ => none

end Sys2Proof.Claims

open Sys2Proof.Claims

/-! ## The step and the decoder -/

/-- R120, R121: when the three bytes at PC are cells of RAM, save storage or program storage and decode to `i`, the step is
exec of `i` at the same state. In general the fetch makes one bus read for the opcode and one for each operand byte that
the instruction reads, and the step is exec of what those bytes decode to, at the state those reads left. -/
def Obligations.StepRunsTheDecodedInstruction : Prop :=
  ∀ s : State, s.run = .running →
    (storable s.pc = true → storable (s.pc + 1) = true → storable (s.pc + 2) = true →
      ∀ i rest, decode [s.peek s.pc, s.peek (s.pc + 1), s.peek (s.pc + 2)] = .ok (i, rest) → step s = exec i s)
    ∧ (let op := busRead s.pc s
       let b1 := busRead (s.pc + 1) op.2
       let b2 := busRead (s.pc + 2) b1.2
       match (builderOf op.1).reads with
       | 0 => step s = exec (decodeOp op.1 0 0) op.2
       | 1 => step s = exec (decodeOp op.1 b1.1 0) b1.2
       | _ => step s = exec (decodeOp op.1 b1.1 b2.1) b2.2)

/-- R45, R120: a core whose RUN is not Running takes no further step. -/
def Obligations.NoStepUnlessRunning : Prop :=
  ∀ s : State, (s.run = .halted → step s = .fault .halted) ∧ ∀ r, s.run = .fatal r → step s = .fault (.fatal r)

/-- Words written out from the formats of R91 and the opcode map of R99 decode to the instructions they stand for. -/
def Obligations.SampleWordsDecode : Prop :=
  decode [0xA9, 0x10] = .ok (.ldaImm 0x10, []) ∧ decode [0x96, 0x01] = .ok (.stxZpY 0x01, [])
    ∧ decode [0x7D, 0xF0, 0x02] = .ok (.adcAbsX 0x02F0, []) ∧ decode [0x0A] = .ok (.aslAcc, [])
    ∧ decode [0x6C, 0xFF, 0x02] = .ok (.jmpInd 0x02FF, []) ∧ decode [0xD0, 0xFB] = .ok (.bne 0xFB, [])
    ∧ decode [0xB3, 0x20] = .ok (.laxIndY 0x20, []) ∧ decode [0xEB, 0x01] = .ok (.sbcImmEB 0x01, [])
    ∧ decode [0x9C, 0x00, 0x03] = .ok (.undef9C, []) ∧ decode [0x00, 0xEA] = .ok (.brk, [0xEA])

/-- R97, R99: decoding what the encoder writes gives the instruction back, with every operand, and the bytes after it. -/
def Obligations.DecodeAfterEncode : Prop :=
  ∀ (i : Instr) (rest : List Byte), decode (encode i ++ rest) = .ok (i, rest)

/-- R90, R91: a decoded instruction is the first bytes of what was decoded, as many as its descriptor's length; its opcode
value is the first of them; and encoding it gives them back, unless the instruction skips a byte that it never reads
(NOP 0x80, R292; the undefined values, R312), which the encoder writes as 0x00 (log entry 8). -/
def Obligations.EncodeAfterDecode : Prop :=
  ∀ (bs : List Byte) (i : Instr) (rest : List Byte), decode bs = .ok (i, rest) →
    bs = bs.take i.desc.len ++ rest ∧ bs.head? = some i.opcode ∧ (encode i).length = (bs.take i.desc.len).length ∧
    (i.addrMode ≠ .immediateSkip → i.mnemonic ≠ .undefined → encode i = bs.take i.desc.len)

/-- R97: the decoder is total. Every byte has a descriptor, and three bytes always hold a whole instruction, whose opcode
value and descriptor are those of the first byte. -/
def Obligations.EveryByteBeginsAnInstruction : Prop :=
  ∀ (op b1 b2 : Byte) (rest : List Byte), ∃ i r, decode (op :: b1 :: b2 :: rest) = .ok (i, r) ∧ i.opcode = op ∧
    i.desc = descOf op

/-- R95, R96, R100: 151 opcode values are documented, 76 are undocumented but defined, and the 29 listed ones are undefined;
and exactly the listed 31 opcode values take the page penalty, which is 1. -/
def Obligations.OpcodeClassesAndPenalties : Prop :=
  (opcodesOf .documented).length = 151 ∧ (opcodesOf .undocumented).length = 76 ∧ undefinedDefaults.length = 29 ∧
    penaltyOpcodes.length = 31 ∧
    ∀ op : Byte, ((descOf op).cls = .undefined ↔ op ∈ undefinedDefaults.map Prod.fst) ∧
      (descOf op).penalty = if op ∈ penaltyOpcodes then 1 else 0

/-- R79, R344, R345: the trace of a state shows PC, the instruction that the next step runs, its bytes and the registers; its
annotation shows the effective address, and there the byte of a cell, the immediate byte, or the accumulator's literal token.
Which modes show a byte, beyond R344's examples of an absolute and an immediate operand, is the model's choice, and so it is
for the targets of branches, jumps and stores, which the step does not read: log entry 19. Where the step reads its operand
from an address, the byte is what it reads. Stated where the instruction's bytes, and the pointer of JMP's indirect form, are cells: elsewhere Peek and a bus read answer
independently. -/
def Obligations.TraceShowsTheNextInstruction : Prop :=
  ∀ (s : State) (i : Instr) (rest : List Byte), s.cfg.valid = true → storable s.pc = true → storable (s.pc + 1) = true →
    storable (s.pc + 2) = true → decode [s.peek s.pc, s.peek (s.pc + 1), s.peek (s.pc + 2)] = .ok (i, rest) →
    (let l := trace s
     l.pc = s.pc ∧ l.bytes = [s.peek s.pc, s.peek (s.pc + 1), s.peek (s.pc + 2)].take (instrLen s.cfg i) ∧
     l.mnemonic = mnemonicText i.mnemonic ∧ l.operand = i.addrMode ∧
     l.a = s.a ∧ l.x = s.x ∧ l.y = s.y ∧ l.p = s.p ∧ l.sp = s.sp ∧
     ((∀ w, i = .jmpInd w → storable w = true ∧ storable (wordOf (hi8 w) (lo8 w + 1)) = true) →
       l.ea = eaOf i s ∧ (∀ a, eaOf i s = .mem a → storable a = true → l.shown = .value (operandOf i s)) ∧
       (∀ a v, eaOf i s = .imm a v → l.shown = .value v) ∧ (eaOf i s = .acc → l.shown = .accumulatorToken)))

/-- R91, R98, R103, R122: the mode that the step resolves is the descriptor's for a defined instruction, and reads nothing for
an undefined value; the length of a defined instruction is its mode's; under a valid configuration every length is 1 to 3 and
every base cycle count at least 1; and an undefined value has no penalty. -/
def Obligations.LengthsAndCyclesAreInRange : Prop :=
  ∀ i : Instr, (i.desc.cls ≠ .undefined → i.addrMode.kind = i.desc.mode ∧ i.desc.len = i.desc.mode.len) ∧
    (i.desc.cls = .undefined → i.addrMode = .implied ∧ i.desc.penalty = 0) ∧
    ∀ cfg : Config, cfg.valid = true → 1 ≤ instrLen cfg i ∧ instrLen cfg i ≤ 3 ∧ 1 ≤ baseCycles cfg i

/-! ## Reset -/

/-- R370: the reset transition, for any draws and any configuration. `l` holds what the transition draws and is given. -/
def Obligations.ResetTransition : Prop :=
  ∀ l : Launch,
    let s := State.launch l
    s.a = l.a ∧ s.x = l.x ∧ s.y = l.y ∧ s.flag .c = l.c ∧ s.flag .z = l.z ∧ s.flag .d = l.d ∧ s.flag .b = l.b ∧
      s.flag .v = l.v ∧ s.flag .n = l.n ∧ s.ram = l.ram ∧ s.apu = l.apu ∧ s.sram = l.sramInit ∧ s.flag .i = true ∧
      s.flag .u = true ∧ s.sp = 0xFD ∧ s.cyc = 7 ∧ s.diag = [] ∧ s.events = [] ∧ s.run = .running ∧
      read16 0xFFFC s = (s.pc, s) ∧
      s.pc = wordOf (Memory.read l.prg ((l.cfg.prgBanks - 1) * 0x4000 + 0x3FFD))
        (Memory.read l.prg ((l.cfg.prgBanks - 1) * 0x4000 + 0x3FFC)) ∧
      s.prg = l.prg ∧ s.cfg = l.cfg

/-- Every valid launch gives a state that meets the invariant, and State.reset is the blank launch's. The blank launch's
values are the model's choice: log entry 1. -/
def Obligations.ResetMeetsTheInvariant : Prop :=
  (∀ l : Launch, l.valid = true → (State.launch l).inv = true) ∧ State.reset.inv = true

/-! ## The bus -/

/-- R52: RAM, mirrored every 0x0800: a read answers the cell, a write sets it, and neither does anything else. -/
def Obligations.RamAccesses : Prop :=
  ∀ (a : Word) (v : Byte) (s : State), a.toNat < 0x2000 →
    busRead a s = (Memory.read s.ram (a.toNat % 0x800), s) ∧
    busWrite a v s = { s with ram := Memory.write s.ram (a.toNat % 0x800) v }

/-- R53 to R57: the peripheral windows. A read answers a draw, or in the unmapped range the configured constant, and changes
nothing but EVENTS, to which it appends one entry, and the model's draw counter. That a draw is `Config.draw` of the counter,
and that the read advances it, is the model's choice: log entry 3. A write appends one entry and, in the audio
window alone, stores into the register bank. -/
def Obligations.PeripheralWindowAccesses : Prop :=
  ∀ (a : Word) (v : Byte) (s : State),
    let drawn := Config.draw s.drawIndex
    let read (reg : Word) := (drawn, { s with events := s.events ++ [⟨.rd, reg, drawn⟩], drawIndex := s.drawIndex + 1 })
    let told (reg : Word) := { s with events := s.events ++ [⟨.wr, reg, v⟩] }
    let reg := BitVec.ofNat 16 (0x2000 + a.toNat % 8)
    (0x2000 ≤ a.toNat → a.toNat < 0x4000 → busRead a s = read reg ∧ busWrite a v s = told reg) ∧
    (0x4000 ≤ a.toNat → a.toNat < 0x4014 ∨ a.toNat = 0x4015 → busRead a s = read a ∧
      busWrite a v s = { told a with apu := Memory.write s.apu (a.toNat - 0x4000) v }) ∧
    (a.toNat = 0x4014 → busRead a s = read a ∧ busWrite a v s = told a) ∧
    (0x4016 ≤ a.toNat → a.toNat < 0x4018 → busRead a s = read a ∧ busWrite a v s = told a) ∧
    (0x4018 ≤ a.toNat → a.toNat < 0x6000 →
      busRead a s = (s.cfg.unmappedValue, { s with events := s.events ++ [⟨.rd, a, s.cfg.unmappedValue⟩] }) ∧
      busWrite a v s = told a)

/-- R58, R59, R60: the cartridge. Save storage is read and written; program storage shows its first bank and its last bank, and
a write to it is dropped. -/
def Obligations.CartridgeAccesses : Prop :=
  ∀ (a : Word) (v : Byte) (s : State),
    (0x6000 ≤ a.toNat → a.toNat < 0x8000 →
      busRead a s = (Memory.read s.sram (a.toNat - 0x6000), s) ∧
      busWrite a v s = { s with sram := Memory.write s.sram (a.toNat - 0x6000) v }) ∧
    (0x8000 ≤ a.toNat → a.toNat < 0xC000 → busRead a s = (Memory.read s.prg (a.toNat % 0x4000), s)) ∧
    (0xC000 ≤ a.toNat →
      busRead a s = (Memory.read s.prg ((s.cfg.prgBanks - 1) * 0x4000 + a.toNat % 0x4000), s)) ∧
    (0x8000 ≤ a.toNat → busWrite a v s = s)

/-- R77: every access in 0x2000–0x5FFF appends exactly one entry to EVENTS, with the mirrored register address in the pixel
window and the address itself elsewhere; every other access appends none. -/
def Obligations.BusAccessesAreRecorded : Prop :=
  ∀ (a : Word) (v : Byte) (s : State),
    (busRead a s).2.events = s.events ++ eventOf .rd a (busRead a s).1 ∧
      (busWrite a v s).events = s.events ++ eventOf .wr a v

/-- R67, R70: a read of RAM or save storage returns the value of the most recent write to the same cell, and a write leaves
every other cell, and every byte of program storage, alone. -/
def Obligations.ReadsReturnTheLastWrite : Prop :=
  ∀ (a b : Word) (v : Byte) (s : State),
    (sameCell a b = true → (busRead b (busWrite a v s)).1 = v) ∧
      (sameCell a b = false → storable b = true → (busRead b (busWrite a v s)).1 = (busRead b s).1)

/-- R62, R63: both 16-bit reads are two bus reads, the low byte first; Read16 takes the high byte from the next address modulo
2^16 and Read16PW from the next address within the page of `a`. -/
def Obligations.SixteenBitReads : Prop :=
  ∀ (a : Word) (s : State),
    let lo := busRead a s
    (let hi := busRead (BitVec.ofNat 16 ((a.toNat + 1) % 0x10000)) lo.2
     read16 a s = (wordOf hi.1 lo.1, hi.2)) ∧
    (let hi := busRead (wordOf (hi8 a) (lo8 a + 1)) lo.2
     read16PW a s = (wordOf hi.1 lo.1, hi.2))

/-! ## Addressing modes -/

/-- R127 to R135 and R139: the effective address and the page-cross flag of the modes that read no pointer, each leaving the
state as it was. -/
def Obligations.DirectModesResolve : Prop :=
  ∀ (s : State) (b : Byte) (w : Word),
    resolve .implied s = ⟨.none, false, s⟩ ∧ resolve .accumulator s = ⟨.acc, false, s⟩ ∧
    (∃ a, resolve (.immediate b) s = ⟨.imm a b, false, s⟩ ∧ a.toNat = (s.pc.toNat + 1) % 0x10000) ∧
    (∃ a, resolve (.zeroPage b) s = ⟨.mem a, false, s⟩ ∧ a.toNat = b.toNat) ∧
    (∃ a, resolve (.zeroPageX b) s = ⟨.mem a, false, s⟩ ∧ a.toNat = (b.toNat + s.x.toNat) % 256) ∧
    (∃ a, resolve (.zeroPageY b) s = ⟨.mem a, false, s⟩ ∧ a.toNat = (b.toNat + s.y.toNat) % 256) ∧
    resolve (.absolute w) s = ⟨.mem w, false, s⟩ ∧
    (∃ a, resolve (.absoluteX w) s = ⟨.mem a, decide (a.toNat / 256 ≠ w.toNat / 256), s⟩ ∧
      a.toNat = (w.toNat + s.x.toNat) % 0x10000) ∧
    (∃ a, resolve (.absoluteY w) s = ⟨.mem a, decide (a.toNat / 256 ≠ w.toNat / 256), s⟩ ∧
      a.toNat = (w.toNat + s.y.toNat) % 0x10000) ∧
    (∃ a, resolve (.relative b) s = ⟨.mem a, false, s⟩ ∧
      (a.toNat : Int) = ((s.pc.toNat : Int) + 2 + b.toInt) % 0x10000)

/-- R137, R138: the two indirect zero-page modes take their pointer's high byte from `(p + 1) mod 256` in page zero, and
change nothing. R136: JMP's indirect mode takes its high byte from the page of its pointer. -/
def Obligations.IndirectModesResolve : Prop :=
  ∀ (s : State) (b : Byte) (w : Word),
    (∃ a, resolve (.indexedIndirect b) s = ⟨.mem a, false, s⟩ ∧
      a.toNat = (zeroPageByte s (b.toNat + s.x.toNat)).toNat + 256 * (zeroPageByte s (b.toNat + s.x.toNat + 1)).toNat) ∧
    (∃ base a, resolve (.indirectIndexed b) s = ⟨.mem a, decide (a.toNat / 256 ≠ base / 256), s⟩ ∧
      base = (zeroPageByte s b.toNat).toNat + 256 * (zeroPageByte s (b.toNat + 1)).toNat ∧
      a.toNat = (base + s.y.toNat) % 0x10000) ∧
    (let lo := busRead w s
     let hi := busRead (wordOf (hi8 w) (lo8 w + 1)) lo.2
     resolve (.indirect w) s = ⟨.mem (wordOf hi.1 lo.1), false, hi.2⟩)

/-! ## The stack -/

/-- R143: a push writes at `0x0100 | SP` and then decrements SP; a pull increments SP and then reads there; both wrap modulo
256, so 256 pushes return SP to its start and 257 leave it one below, and a pull after a push gives the byte and SP back. -/
def Obligations.PushesWrapTheStackPointer : Prop :=
  ∀ (s : State) (v : Byte) (bs : List Byte),
    MemoryStored s (push v s) (0x0100 ||| zext16 s.sp) v ∧
    push v s = { s with ram := (push v s).ram, sp := s.sp - 1 } ∧
    pull s = (s.peek (0x0100 ||| zext16 (s.sp + 1)), { s with sp := s.sp + 1 }) ∧
    (pull (push v s)).1 = v ∧ (pull (push v s)).2.sp = s.sp ∧
    (pushAll bs s).sp.toNat = (s.sp.toNat + 256 * bs.length - bs.length) % 256 ∧
    (bs.length = 256 → (pushAll bs s).sp = s.sp) ∧ (bs.length = 257 → (pushAll bs s).sp = s.sp - 1)

/-! ## Loads, stores and transfers (41_) -/

/-- R150, R151, R152, R297: LDA, LDX, LDY and LAX write the operand to their registers and to N and Z, and nothing else. -/
def Obligations.LoadsWriteTheirRegisters : Prop :=
  ∀ (i : Instr) (s : State), i.mnemonic ∈ [Mnemonic.lda, .ldx, .ldy, .lax] →
    EncodedAs i.mnemonic ∧
    ∃ t, exec i s = .next t ∧
      t.a = (if i.mnemonic ∈ [Mnemonic.lda, .lax] then operandOf i s else s.a) ∧
      t.x = (if i.mnemonic ∈ [Mnemonic.ldx, .lax] then operandOf i s else s.x) ∧
      t.y = (if i.mnemonic = .ldy then operandOf i s else s.y) ∧ t.sp = s.sp ∧
      NZof t (operandOf i s) ∧ FlagsKept s t [.n, .z] ∧ NextInLine i s t ∧ MemoryKept s t ∧
      t.events = s.events ++ eventAt .rd (eaOf i s) (operandOf i s) ∧ RecordsKept s t

/-- R153, R154, R155, R298: STA, STX, STY and SAX write their register at the effective address without reading it, and
change no register and no flag. -/
def Obligations.StoresWriteTheirByte : Prop :=
  ∀ (i : Instr) (s : State), i.mnemonic ∈ [Mnemonic.sta, .stx, .sty, .sax] →
    EncodedAs i.mnemonic ∧
    ∃ t a, exec i s = .next t ∧ eaOf i s = .mem a ∧
      (let v := if i.mnemonic = .sta then s.a else if i.mnemonic = .stx then s.x
        else if i.mnemonic = .sty then s.y else s.a &&& s.x
       MemoryStored s t a v ∧ t.events = s.events ++ eventOf .wr a v) ∧
      RegistersKept s t ∧ t.p = s.p ∧ NextInLine i s t ∧ RecordsKept s t

/-- R156 to R161: the six transfers copy one register to another and set N and Z from it, but TXS writes no flag. -/
def Obligations.TransfersCopyARegister : Prop :=
  ∀ (i : Instr) (s : State), i.mnemonic ∈ [Mnemonic.tax, .tay, .txa, .tya, .tsx, .txs] →
    EncodedAs i.mnemonic ∧
    ∃ t, exec i s = .next t ∧
      t.a = (if i.mnemonic = .txa then s.x else if i.mnemonic = .tya then s.y else s.a) ∧
      t.x = (if i.mnemonic = .tax then s.a else if i.mnemonic = .tsx then s.sp else s.x) ∧
      t.y = (if i.mnemonic = .tay then s.a else s.y) ∧ t.sp = (if i.mnemonic = .txs then s.x else s.sp) ∧
      (i.mnemonic = .txs → t.p = s.p) ∧
      (i.mnemonic ≠ .txs → FlagsKept s t [.n, .z] ∧
        NZof t (if i.mnemonic ∈ [Mnemonic.tax, .tay] then s.a else if i.mnemonic = .txa then s.x
          else if i.mnemonic = .tya then s.y else s.sp)) ∧
      NextInLine i s t ∧ MemoryKept s t ∧ t.events = s.events ∧ RecordsKept s t

/-! ## Arithmetic and logic (42_) -/

/-- R180, R182, R184, R185, R301: ADC and SBC. The result is the 9-bit sum of A, the operand (complemented for SBC) and C;
V is set iff the two agree in sign and the result differs. D has no part in it. -/
def Obligations.AddAndSubtractWithCarry : Prop :=
  ∀ (i : Instr) (s : State), i.mnemonic ∈ [Mnemonic.adc, .sbc] →
    EncodedAs i.mnemonic ∧
    ∃ t, exec i s = .next t ∧
      (let m := if i.mnemonic = .adc then operandOf i s else operandOf i s ^^^ 0xFF
       let sum := s.a.toNat + m.toNat + (s.flag .c).toNat
       t.a.toNat = sum % 256 ∧ t.flag .c = decide (255 < sum) ∧
       t.flag .v = (decide (s.a.msb = m.msb) && decide (t.a.msb ≠ s.a.msb))) ∧
      NZof t t.a ∧ t.x = s.x ∧ t.y = s.y ∧ t.sp = s.sp ∧ FlagsKept s t [.c, .v, .n, .z] ∧ NextInLine i s t ∧
      MemoryKept s t ∧ t.events = s.events ++ eventAt .rd (eaOf i s) (operandOf i s) ∧ RecordsKept s t

/-- R183: SBC as a subtraction. With carry-in 1 it computes `a - m` modulo 256 and sets `C = (a >= m)`; with carry-in 0 it
computes `a - m - 1` and sets `C = (a >= m + 1)`, with `m + 1` taken without wrap. -/
def Obligations.SubtractIsSubtraction : Prop :=
  ∀ (i : Instr) (s : State), i.mnemonic = .sbc →
    ∃ t, exec i s = .next t ∧
      (s.flag .c = true → t.a = s.a - operandOf i s ∧ t.flag .c = decide ((operandOf i s).toNat ≤ s.a.toNat)) ∧
      (s.flag .c = false → t.a = s.a - operandOf i s - 1 ∧ t.flag .c = decide ((operandOf i s).toNat + 1 ≤ s.a.toNat))

/-- R182: the D flag has no effect on arithmetic. Two states that differ only in D are taken by every arithmetic instruction to
states that differ only in D. Where the operand is a peripheral read, both runs get the same byte because both draws are
`Config.draw` of equal counters: the model's choice, log entry 3. R77 lets a draw depend on EVENTS and on nothing else of the
core, and the two states' EVENTS are equal; but it makes no draw a function of them. -/
def Obligations.DecimalFlagIsInert : Prop :=
  ∀ (i : Instr) (s : State) (d : Bool), i.mnemonic ∈ [Mnemonic.adc, .sbc, .rra, .isb, .cmp, .cpx, .cpy, .dcp, .inc, .dec,
      .inx, .iny, .dex, .dey] →
    ∃ t, exec i s = .next t ∧ exec i (s.setFlag .d d) = .next (t.setFlag .d d)

/-- R186, R187, R188: AND, ORA and EOR. -/
def Obligations.LogicOperations : Prop :=
  ∀ (i : Instr) (s : State), i.mnemonic ∈ [Mnemonic.and, .ora, .eor] →
    EncodedAs i.mnemonic ∧
    ∃ t, exec i s = .next t ∧
      t.a = (if i.mnemonic = .and then s.a &&& operandOf i s else if i.mnemonic = .ora then s.a ||| operandOf i s
        else s.a ^^^ operandOf i s) ∧
      NZof t t.a ∧ t.x = s.x ∧ t.y = s.y ∧ t.sp = s.sp ∧ FlagsKept s t [.n, .z] ∧ NextInLine i s t ∧ MemoryKept s t ∧
      t.events = s.events ++ eventAt .rd (eaOf i s) (operandOf i s) ∧ RecordsKept s t

/-- R189: BIT sets Z from `A & m`, and N and V from bits 7 and 6 of the memory byte. -/
def Obligations.BitTest : Prop :=
  ∀ (i : Instr) (s : State), i.mnemonic = .bit →
    EncodedAs i.mnemonic ∧
    ∃ t, exec i s = .next t ∧ t.flag .z = (s.a &&& operandOf i s == 0) ∧ t.flag .n = (operandOf i s).getLsbD 7 ∧
      t.flag .v = (operandOf i s).getLsbD 6 ∧ RegistersKept s t ∧ FlagsKept s t [.z, .n, .v] ∧ NextInLine i s t ∧
      MemoryKept s t ∧ t.events = s.events ++ eventAt .rd (eaOf i s) (operandOf i s) ∧ RecordsKept s t

/-- R181, R190, R191, R192: CMP, CPX and CPY store nothing; C is set iff the register is at least the operand, unsigned, and N
and Z come from the difference modulo 256. V is unchanged. -/
def Obligations.CompareOperations : Prop :=
  ∀ (i : Instr) (s : State), i.mnemonic ∈ [Mnemonic.cmp, .cpx, .cpy] →
    EncodedAs i.mnemonic ∧
    ∃ t, exec i s = .next t ∧
      (let reg := if i.mnemonic = .cmp then s.a else if i.mnemonic = .cpx then s.x else s.y
       t.flag .c = decide ((operandOf i s).toNat ≤ reg.toNat) ∧ NZof t (reg - operandOf i s)) ∧
      RegistersKept s t ∧ FlagsKept s t [.c, .n, .z] ∧ NextInLine i s t ∧ MemoryKept s t ∧
      t.events = s.events ++ eventAt .rd (eaOf i s) (operandOf i s) ∧ RecordsKept s t

/-- R193, R194: INC and DEC read the byte at the effective address once, write it back one more or one less modulo 256, and
set N and Z from it. C and V are unchanged. -/
def Obligations.IncrementAndDecrementMemory : Prop :=
  ∀ (i : Instr) (s : State), i.mnemonic ∈ [Mnemonic.inc, .dec] →
    EncodedAs i.mnemonic ∧
    ∃ t a, exec i s = .next t ∧ eaOf i s = .mem a ∧
      (let r := if i.mnemonic = .inc then operandOf i s + 1 else operandOf i s - 1
       MemoryStored s t a r ∧ NZof t r ∧
       t.events = s.events ++ eventOf .rd a (operandOf i s) ++ eventOf .wr a r) ∧
      RegistersKept s t ∧ FlagsKept s t [.n, .z] ∧ NextInLine i s t ∧ RecordsKept s t

/-- R195 to R198: INX, INY, DEX and DEY wrap modulo 256 and set N and Z. -/
def Obligations.IncrementAndDecrementRegisters : Prop :=
  ∀ (i : Instr) (s : State), i.mnemonic ∈ [Mnemonic.inx, .iny, .dex, .dey] →
    EncodedAs i.mnemonic ∧
    ∃ t, exec i s = .next t ∧ t.a = s.a ∧ t.sp = s.sp ∧
      t.x = (if i.mnemonic = .inx then s.x + 1 else if i.mnemonic = .dex then s.x - 1 else s.x) ∧
      t.y = (if i.mnemonic = .iny then s.y + 1 else if i.mnemonic = .dey then s.y - 1 else s.y) ∧
      NZof t (if i.mnemonic ∈ [Mnemonic.inx, .dex] then t.x else t.y) ∧ FlagsKept s t [.n, .z] ∧ NextInLine i s t ∧
      MemoryKept s t ∧ t.events = s.events ∧ RecordsKept s t

/-! ## Shifts and rotates (43_) -/

/-- R220 to R225: ASL, LSR, ROL and ROR in the accumulator form read and write A and make no bus access; in a memory form they
read the byte at the effective address once and write the result there once. C is the bit shifted out, N and Z are the
result's. Nine ROLs in a row restore both the value and C, here on A. -/
def Obligations.ShiftsAndRotates : Prop :=
  (∀ (i : Instr) (s : State), i.mnemonic ∈ [Mnemonic.asl, .lsr, .rol, .ror] →
    EncodedAs i.mnemonic ∧
    ∃ t, exec i s = .next t ∧
      (let v := operandOf i s
       let left := i.mnemonic = .asl ∨ i.mnemonic = .rol
       let cin := if i.mnemonic ∈ [Mnemonic.rol, .ror] then s.flag .c else false
       let r := BitVec.ofNat 8 (if left then 2 * v.toNat + cin.toNat else v.toNat / 2 + 128 * cin.toNat)
       t.flag .c = (if left then v.getLsbD 7 else v.getLsbD 0) ∧ NZof t r ∧
       (eaOf i s = .acc → v = s.a ∧ t.a = r ∧ MemoryKept s t ∧ t.events = s.events) ∧
       (eaOf i s ≠ .acc → t.a = s.a ∧ ∃ a, eaOf i s = .mem a ∧ MemoryStored s t a r ∧
         t.events = s.events ++ eventOf .rd a v ++ eventOf .wr a r)) ∧
      t.x = s.x ∧ t.y = s.y ∧ t.sp = s.sp ∧ FlagsKept s t [.c, .n, .z] ∧ NextInLine i s t ∧ RecordsKept s t) ∧
  ∀ s : State, ∃ t, repeatExec .rolAcc 9 s = some t ∧ t.a = s.a ∧ t.flag .c = s.flag .c

/-! ## Control transfer and the stack (44_) -/

/-- R242: JMP loads PC with the effective address and changes nothing else; the indirect form records the reads of its
pointer. -/
def Obligations.JumpLoadsTheProgramCounter : Prop :=
  ∀ (i : Instr) (s : State), i.mnemonic = .jmp →
    EncodedAs i.mnemonic ∧
    ∃ t a, exec i s = .next t ∧ eaOf i s = .mem a ∧ t.pc = a ∧ t.cyc = s.cyc + i.desc.cycles ∧ RegistersKept s t ∧
      t.p = s.p ∧ MemoryKept s t ∧ RecordsKept s t ∧
      (∀ w, i = .jmpAbs w → a = w ∧ t.events = s.events) ∧
      (∀ w, i = .jmpInd w → t.events = s.events ++ eventOf .rd w (lo8 a) ++
        eventOf .rd (wordOf (hi8 w) (lo8 w + 1)) (hi8 a))

/-- R243: JSR pushes the address of its own last byte, high byte first, and jumps. -/
def Obligations.CallPushesTheReturnAddress : Prop :=
  ∀ (w : Word) (s : State),
    EncodedAs .jsr ∧
    ∃ t, exec (.jsrAbs w) s = .next t ∧ t.pc = w ∧ t.sp = s.sp - 2 ∧ t.cyc = s.cyc + 6 ∧
      (∀ b, t.peek b = if sameCell (0x0100 ||| zext16 (s.sp - 1)) b then lo8 (s.pc + 2)
        else if sameCell (0x0100 ||| zext16 s.sp) b then hi8 (s.pc + 2) else s.peek b) ∧
      t.apu = s.apu ∧ t.a = s.a ∧ t.x = s.x ∧ t.y = s.y ∧ t.p = s.p ∧ t.events = s.events ∧ RecordsKept s t

/-- R244, R333: RTS pulls the return address, low byte first, adds 1, and halts the core iff the new PC is the sentinel. -/
def Obligations.ReturnPullsTheAddress : Prop :=
  ∀ s : State,
    EncodedAs .rts ∧
    ∃ t, exec .rts s = .next t ∧
      t.pc = wordOf (s.peek (0x0100 ||| zext16 (s.sp + 2))) (s.peek (0x0100 ||| zext16 (s.sp + 1))) + 1 ∧
      t.sp = s.sp + 2 ∧ t.cyc = s.cyc + 6 ∧ t.run = (if s.cfg.sentinel = some t.pc then .halted else s.run) ∧
      MemoryKept s t ∧ t.a = s.a ∧ t.x = s.x ∧ t.y = s.y ∧ t.p = s.p ∧ t.events = s.events ∧ t.diag = s.diag ∧
      t.prg = s.prg ∧ t.cfg = s.cfg

/-- R243, R244: an RTS at any address, on the stack that a JSR left, resumes after the JSR with SP restored. -/
def Obligations.ReturnAfterCallResumes : Prop :=
  ∀ (w pc : Word) (s : State), ∃ t u, exec (.jsrAbs w) s = .next t ∧ exec .rts (t.setPc pc) = .next u ∧
    u.pc = s.pc + 3 ∧ u.sp = s.sp ∧ u.a = s.a ∧ u.x = s.x ∧ u.y = s.y ∧ u.p = s.p ∧ u.cyc = s.cyc + 12

/-- R240, R246, R338: BRK saves `PC0 + 2`, high byte first, and then `P | 0x30`, sets I, and loads PC from 0xFFFE–0xFFFF. -/
def Obligations.BreakTakesTheTrap : Prop :=
  ∀ s : State,
    EncodedAs .brk ∧
    ∃ t, exec .brk s = .next t ∧ t.pc = wordOf (s.peek 0xFFFF) (s.peek 0xFFFE) ∧ t.sp = s.sp - 3 ∧ t.cyc = s.cyc + 7 ∧
      (∀ b, t.peek b = if sameCell (0x0100 ||| zext16 (s.sp - 2)) b then s.p ||| 0x30
        else if sameCell (0x0100 ||| zext16 (s.sp - 1)) b then lo8 (s.pc + 2)
        else if sameCell (0x0100 ||| zext16 s.sp) b then hi8 (s.pc + 2) else s.peek b) ∧
      t.flag .i = true ∧ FlagsKept s t [.i] ∧ t.apu = s.apu ∧ t.a = s.a ∧ t.x = s.x ∧ t.y = s.y ∧ t.events = s.events ∧
      RecordsKept s t

/-- R241, R245: RTI pulls P, with B cleared and U set, and then PC, low byte first, exactly. -/
def Obligations.ReturnFromInterruptRestores : Prop :=
  ∀ s : State,
    EncodedAs .rti ∧
    ∃ t, exec .rti s = .next t ∧
      t.p = (s.peek (0x0100 ||| zext16 (s.sp + 1)) &&& 0xCF) ||| 0x20 ∧
      t.pc = wordOf (s.peek (0x0100 ||| zext16 (s.sp + 3))) (s.peek (0x0100 ||| zext16 (s.sp + 2))) ∧
      t.sp = s.sp + 3 ∧ t.cyc = s.cyc + 6 ∧ MemoryKept s t ∧ t.a = s.a ∧ t.x = s.x ∧ t.y = s.y ∧ t.events = s.events ∧
      RecordsKept s t

/-- R339: after BRK and then RTI on an untouched stack, PC is the BRK's address plus 2, SP is restored, and P is its value
before BRK with B cleared and U set. -/
def Obligations.BreakThenReturnRestores : Prop :=
  ∀ (pc : Word) (s : State), ∃ t u, exec .brk s = .next t ∧ exec .rti (t.setPc pc) = .next u ∧
    u.pc = s.pc + 2 ∧ u.sp = s.sp ∧ u.flag .b = false ∧ u.flag .u = true ∧ FlagsKept s u [.b, .u] ∧
    u.a = s.a ∧ u.x = s.x ∧ u.y = s.y

/-- R247 to R255, R382: a branch is taken iff its flag matches; taken, it costs one more cycle, and one more again if the
target is on another page than the next instruction. It changes nothing but PC and CYC. -/
def Obligations.BranchesAndTheirTiming : Prop :=
  ∀ (i : Instr) (s : State), i.mnemonic ∈ [Mnemonic.bpl, .bmi, .bvc, .bvs, .bcc, .bcs, .bne, .beq] →
    EncodedAs i.mnemonic ∧
    ∃ t off, i.addrMode = .relative off ∧ exec i s = .next t ∧
      (let next := s.pc + 2
       let target := next + sext16 off
       let taken := branchTaken i.mnemonic s
       t.pc = (if taken then target else next) ∧
       t.cyc = s.cyc + 2 + (if taken then (if hi8 target = hi8 next then 1 else 2) else 0)) ∧
      RegistersKept s t ∧ t.p = s.p ∧ MemoryKept s t ∧ t.events = s.events ∧ RecordsKept s t

/-- R240, R256, R257: PHA pushes A, and PHP pushes P with bits 4 and 5 set; no flag changes. -/
def Obligations.PushesStoreOneByte : Prop :=
  ∀ (i : Instr) (s : State), i.mnemonic ∈ [Mnemonic.pha, .php] →
    EncodedAs i.mnemonic ∧
    ∃ t, exec i s = .next t ∧
      MemoryStored s t (0x0100 ||| zext16 s.sp) (if i.mnemonic = .pha then s.a else s.p ||| 0x30) ∧ t.sp = s.sp - 1 ∧
      t.a = s.a ∧ t.x = s.x ∧ t.y = s.y ∧ t.p = s.p ∧ NextInLine i s t ∧ t.events = s.events ∧ RecordsKept s t

/-- R241, R258, R259: PLA pulls A and sets N and Z; PLP pulls the whole of P, with B cleared and U set. -/
def Obligations.PullsLoadOneByte : Prop :=
  ∀ (i : Instr) (s : State), i.mnemonic ∈ [Mnemonic.pla, .plp] →
    EncodedAs i.mnemonic ∧
    ∃ t, exec i s = .next t ∧
      (let v := s.peek (0x0100 ||| zext16 (s.sp + 1))
       (i.mnemonic = .pla → t.a = v ∧ NZof t v ∧ FlagsKept s t [.n, .z]) ∧
       (i.mnemonic = .plp → t.a = s.a ∧ t.p = (v &&& 0xCF) ||| 0x20)) ∧
      t.sp = s.sp + 1 ∧ t.x = s.x ∧ t.y = s.y ∧ NextInLine i s t ∧ MemoryKept s t ∧ t.events = s.events ∧ RecordsKept s t

/-- R260 to R266: each flag instruction writes the one flag it names and nothing else. -/
def Obligations.FlagInstructionsWriteOneFlag : Prop :=
  ∀ (i : Instr) (s : State), i.mnemonic ∈ [Mnemonic.clc, .sec, .cli, .sei, .clv, .cld, .sed] →
    EncodedAs i.mnemonic ∧
    ∃ t, exec i s = .next t ∧
      (let f := if i.mnemonic ∈ [Mnemonic.clc, .sec] then Flag.c else if i.mnemonic ∈ [Mnemonic.cli, .sei] then Flag.i
        else if i.mnemonic = .clv then Flag.v else Flag.d
       t.flag f = decide (i.mnemonic ∈ [Mnemonic.sec, .sei, .sed]) ∧ FlagsKept s t [f]) ∧
      RegistersKept s t ∧ NextInLine i s t ∧ MemoryKept s t ∧ t.events = s.events ∧ RecordsKept s t

/-! ## No-operations, fusions and undefined values (45_) -/

/-- R267, R290 to R296: every NOP changes nothing but PC and CYC, the penalty of its mode included, and reads nothing at its
effective address. The fetch reads the operand bytes of its mode, but for the immediate NOP, whose byte is skipped. -/
def Obligations.NoOperationsOnlyAdvance : Prop :=
  ∀ (i : Instr) (s : State), i.mnemonic = .nop →
    EncodedAs i.mnemonic ∧
    (builderOf i.opcode).reads = (if i = .nopImm80 then 0 else i.desc.len - 1) ∧
    ∃ t, exec i s = .next t ∧ NextInLine i s t ∧ t = { s with pc := t.pc, cyc := t.cyc }

/-- R299, R306: DCP decrements the byte at the effective address and compares A with the result. -/
def Obligations.DecrementThenCompare : Prop :=
  ∀ (i : Instr) (s : State), i.mnemonic = .dcp →
    EncodedAs i.mnemonic ∧
    ∃ t a, exec i s = .next t ∧ eaOf i s = .mem a ∧
      (let r := operandOf i s - 1
       MemoryStored s t a r ∧ t.events = s.events ++ eventOf .rd a (operandOf i s) ++ eventOf .wr a r ∧
       t.flag .c = decide (r.toNat ≤ s.a.toNat) ∧ NZof t (s.a - r)) ∧
      RegistersKept s t ∧ FlagsKept s t [.c, .n, .z] ∧ NextInLine i s t ∧ RecordsKept s t

/-- R300, R306: ISB increments the byte at the effective address and subtracts the result from A with carry. -/
def Obligations.IncrementThenSubtract : Prop :=
  ∀ (i : Instr) (s : State), i.mnemonic = .isb →
    EncodedAs i.mnemonic ∧
    ∃ t a, exec i s = .next t ∧ eaOf i s = .mem a ∧
      (let r := operandOf i s + 1
       let sum := s.a.toNat + (r ^^^ 0xFF).toNat + (s.flag .c).toNat
       MemoryStored s t a r ∧ t.events = s.events ++ eventOf .rd a (operandOf i s) ++ eventOf .wr a r ∧
       t.a.toNat = sum % 256 ∧ t.flag .c = decide (255 < sum) ∧
       t.flag .v = (decide (s.a.msb = (r ^^^ 0xFF).msb) && decide (t.a.msb ≠ s.a.msb))) ∧
      NZof t t.a ∧ t.x = s.x ∧ t.y = s.y ∧ t.sp = s.sp ∧ FlagsKept s t [.c, .v, .n, .z] ∧ NextInLine i s t ∧
      RecordsKept s t

/-- R302, R303, R304, R306: SLO, RLA and SRE shift or rotate the byte at the effective address and combine the result into A;
C is the bit shifted out, and N and Z are those of the new A. -/
def Obligations.ShiftThenLogic : Prop :=
  ∀ (i : Instr) (s : State), i.mnemonic ∈ [Mnemonic.slo, .rla, .sre] →
    EncodedAs i.mnemonic ∧
    ∃ t a, exec i s = .next t ∧ eaOf i s = .mem a ∧
      (let v := operandOf i s
       let r := BitVec.ofNat 8 (if i.mnemonic = .slo then 2 * v.toNat
         else if i.mnemonic = .rla then 2 * v.toNat + (s.flag .c).toNat else v.toNat / 2)
       MemoryStored s t a r ∧ t.events = s.events ++ eventOf .rd a v ++ eventOf .wr a r ∧
       t.flag .c = (if i.mnemonic = .sre then v.getLsbD 0 else v.getLsbD 7) ∧
       t.a = (if i.mnemonic = .slo then s.a ||| r else if i.mnemonic = .rla then s.a &&& r else s.a ^^^ r)) ∧
      NZof t t.a ∧ t.x = s.x ∧ t.y = s.y ∧ t.sp = s.sp ∧ FlagsKept s t [.c, .n, .z] ∧ NextInLine i s t ∧
      RecordsKept s t

/-- R305, R306: RRA rotates the byte at the effective address right and adds the result to A with the carry that the rotate
produced. -/
def Obligations.RotateThenAdd : Prop :=
  ∀ (i : Instr) (s : State), i.mnemonic = .rra →
    EncodedAs i.mnemonic ∧
    ∃ t a, exec i s = .next t ∧ eaOf i s = .mem a ∧
      (let v := operandOf i s
       let r := BitVec.ofNat 8 (v.toNat / 2 + 128 * (s.flag .c).toNat)
       let sum := s.a.toNat + r.toNat + (v.getLsbD 0).toNat
       MemoryStored s t a r ∧ t.events = s.events ++ eventOf .rd a v ++ eventOf .wr a r ∧
       t.a.toNat = sum % 256 ∧ t.flag .c = decide (255 < sum) ∧
       t.flag .v = (decide (s.a.msb = r.msb) && decide (t.a.msb ≠ s.a.msb))) ∧
      NZof t t.a ∧ t.x = s.x ∧ t.y = s.y ∧ t.sp = s.sp ∧ FlagsKept s t [.c, .v, .n, .z] ∧ NextInLine i s t ∧
      RecordsKept s t

/-- R104, R312: the undefined opcode values are the 29 listed ones. The fetch reads nothing after the opcode. Each appends
`(op, PC0)` to DIAG, advances PC by `UNDEF_LEN[op]` and CYC by `UNDEF_CYC[op]`, and changes nothing else; where the
configuration has no entry for the opcode value, those are R104's defaults. -/
def Obligations.UndefinedOpcodesRecordADiagnostic : Prop :=
  (∀ row ∈ undefinedDefaults, ∃ i : Instr, i.mnemonic = .undefined ∧ i.opcode = row.1) ∧
  ∀ (i : Instr) (s : State), i.mnemonic = .undefined →
    i.opcode ∈ undefinedDefaults.map Prod.fst ∧ (builderOf i.opcode).reads = 0 ∧
    exec i s = .next { s with
      pc := s.pc + BitVec.ofNat 16 (instrLen s.cfg i)
      cyc := s.cyc + baseCycles s.cfg i
      diag := s.diag ++ [⟨i.opcode, s.pc⟩] } ∧
    ((∀ e ∈ s.cfg.undef, e.opcode ≠ i.opcode) → (i.opcode, instrLen s.cfg i, baseCycles s.cfg i) ∈ undefinedDefaults) ∧
    ∀ e ∈ s.cfg.undef, e.opcode = i.opcode → (∀ f ∈ s.cfg.undef, f.opcode = i.opcode → f = e) →
      instrLen s.cfg i = e.len ∧ baseCycles s.cfg i = e.cycles

/-! ## The whole machine -/

/-- R39: every instruction can execute in every state, and it leaves the core running unless it is an RTS. -/
def Obligations.EveryInstructionExecutes : Prop :=
  ∀ (i : Instr) (s : State), ∃ t, exec i s = .next t ∧ (i ≠ .rts → t.run = s.run)

/-- R28, R40 to R43: every step keeps the invariant: the unused flag stays set, the arrays stay canonical and in range, and the
configuration stays valid. The canonical form is the model's own (log entry 2). -/
def Obligations.StepKeepsTheInvariant : Prop :=
  ∀ s t : State, s.inv = true → step s = .next t → t.inv = true

/-- R37, R126: under a valid configuration every step adds at least one cycle to CYC. -/
def Obligations.EveryStepConsumesCycles : Prop :=
  ∀ s t : State, s.cfg.valid = true → step s = .next t → s.cyc + 1 ≤ t.cyc

/-- R21, R22, R23, R26: the only writers of A, X, Y and SP are the listed instructions. -/
def Obligations.RegisterWriters : Prop :=
  ∀ (i : Instr) (s t : State), exec i s = .next t →
    (i.mnemonic ∉ [Mnemonic.lda, .pla, .txa, .tya, .adc, .sbc, .and, .ora, .eor, .lax, .slo, .rla, .sre, .rra, .isb] →
      i.addrMode ≠ .accumulator → t.a = s.a) ∧
    (i.mnemonic ∉ [Mnemonic.ldx, .tax, .tsx, .inx, .dex, .lax] → t.x = s.x) ∧
    (i.mnemonic ∉ [Mnemonic.ldy, .tay, .iny, .dey] → t.y = s.y) ∧
    (i.mnemonic ∉ [Mnemonic.txs, .pha, .php, .pla, .plp, .jsr, .rts, .brk, .rti] → t.sp = s.sp)

/-- R28, R30 to R36: the only writers of C, I, D, B and V are the listed instructions; the listed instructions that call no
SetNZ leave Z and N alone; and U is written only by PLP and RTI, which set it. -/
def Obligations.FlagWriters : Prop :=
  ∀ (i : Instr) (s t : State), exec i s = .next t →
    (i.mnemonic ∉ [Mnemonic.adc, .sbc, .cmp, .cpx, .cpy, .asl, .lsr, .rol, .ror, .slo, .rla, .sre, .rra, .dcp, .isb, .clc,
      .sec, .plp, .rti] → t.flag .c = s.flag .c) ∧
    (i.mnemonic ∉ [Mnemonic.sei, .cli, .brk, .plp, .rti] → t.flag .i = s.flag .i) ∧
    (i.mnemonic ∉ [Mnemonic.sed, .cld, .plp, .rti] → t.flag .d = s.flag .d) ∧
    (i.mnemonic ∉ [Mnemonic.plp, .rti] → t.flag .b = s.flag .b) ∧
    (i.mnemonic ∉ [Mnemonic.adc, .sbc, .bit, .clv, .rra, .isb, .plp, .rti] → t.flag .v = s.flag .v) ∧
    (i.mnemonic ∈ [Mnemonic.sta, .stx, .sty, .sax, .txs, .jmp, .jsr, .rts, .brk, .bpl, .bmi, .bvc, .bvs, .bcc, .bcs, .bne,
      .beq, .pha, .php, .clc, .sec, .cli, .sei, .clv, .cld, .sed, .nop, .undefined] →
      t.flag .z = s.flag .z ∧ t.flag .n = s.flag .n) ∧
    t.flag .u = (s.flag .u || decide (i.mnemonic ∈ [Mnemonic.plp, .rti]))

/-- R42, R43, R60: no step writes the program image, the configuration, or entry 0x14 of the audio register bank. -/
def Obligations.StorageThatNoStepWrites : Prop :=
  ∀ s t : State, step s = .next t → t.prg = s.prg ∧ t.cfg = s.cfg ∧ Memory.read t.apu 0x14 = Memory.read s.apu 0x14

/-- R44, R331: a step appends to DIAG the pair of its opcode and PC0 if the opcode it fetches is undefined, and otherwise leaves
DIAG as it was. -/
def Obligations.DiagnosticsOnlyFromUndefinedOpcodes : Prop :=
  ∀ s t : State, step s = .next t →
    let op := (busRead s.pc s).1
    t.diag = s.diag ++ (if op ∈ undefinedDefaults.map Prod.fst then [⟨op, s.pc⟩] else [])

/-- R46: no step removes an entry of EVENTS or puts one before an older one. -/
def Obligations.EventsOnlyGrow : Prop :=
  ∀ s t : State, step s = .next t → ∃ es, t.events = s.events ++ es

/-- R330, R333, R347: a step that answers leaves the core running, unless it ran an RTS whose new PC is the sentinel, which
halts it; no step raises a fatal violation. -/
def Obligations.HaltOnlyAtTheSentinel : Prop :=
  ∀ s t : State, step s = .next t →
    t.run = (if (busRead s.pc s).1 = 0x60 ∧ s.cfg.sentinel = some t.pc then .halted else .running)

/-! ## The host's side -/

/-- R126, R332: a running core's step returns the number of cycles it added to CYC, as Cycles, or as Halt at the sentinel. The
answer Halt(0) of a halted core is the model's reading: log entry 11. -/
def Obligations.StepReturnsItsCycles : Prop :=
  ∀ s : State,
    (∀ t, step s = .next t → t.run = .running → stepResult s = some (.cycles (t.cyc - s.cyc), t)) ∧
    (∀ t, step s = .next t → t.run = .halted → stepResult s = some (.halt (t.cyc - s.cyc), t)) ∧
    (s.run = .halted → stepResult s = some (.halt 0, s))

/-- R72, R350: between two steps the peripherals change RAM, save storage and the audio bank only at addresses of
PERIPH_WRITABLE, and nothing else of the core. That these three are the cells a peripheral reaches is the model's choice:
log entry 12. -/
def Obligations.PeripheralsWriteOnlyWhereAllowed : Prop :=
  ∀ (d : DriverConfig) (pixel : PixelAgent) (audio : Agent) (n : Nat) (s : State),
    let t := runPeripherals d pixel audio n s
    t = { s with ram := t.ram, sram := t.sram, apu := t.apu } ∧
      (∀ b, (∀ a ∈ d.periphWritable, sameCell a b = false) → t.peek b = s.peek b) ∧
      ∀ k, (∀ a ∈ d.periphWritable, busTarget a ≠ .audio k) → Memory.read t.apu k = Memory.read s.apu k
end

