-- ==== Sys2Proof/Laws/Memory.lean ====
section
/-!
SUPPORT. The laws of a byte array: reading after writing, and that every operation keeps the canonical form.
-/

namespace Sys2Proof.Machine

@[simp] theorem Memory.read_nil (k : Nat) : Memory.read [] k = Memory.unlisted := rfl

theorem Memory.read_erase_same (m : Memory) (k : Nat) : Memory.read (Memory.erase m k) k = Memory.unlisted := by
  induction m with
  | nil => rfl
  | cons c r ih =>
    obtain ⟨k', v⟩ := c
    by_cases h : k = k'
    · simpa [Memory.erase, h] using (h ▸ ih)
    · simpa [Memory.erase, Memory.read, h] using ih

theorem Memory.read_erase_other (m : Memory) {k j : Nat} (h : j ≠ k) :
    Memory.read (Memory.erase m k) j = Memory.read m j := by
  induction m with
  | nil => rfl
  | cons c r ih =>
    obtain ⟨k', v⟩ := c
    by_cases hk : k = k'
    · subst hk
      simp [Memory.erase, Memory.read, h, ih]
    · by_cases hj : j = k'
      · simp [Memory.erase, Memory.read, hk, hj]
      · simp [Memory.erase, Memory.read, hk, hj, ih]

theorem Memory.read_put_same (m : Memory) (k : Nat) (v : Byte) : Memory.read (Memory.put m k v) k = v := by
  induction m with
  | nil => simp [Memory.put, Memory.read]
  | cons c r ih =>
    obtain ⟨k', v'⟩ := c
    by_cases hlt : k < k'
    · simp [Memory.put, Memory.read, hlt]
    · by_cases hk : k = k'
      · simp [Memory.put, Memory.read, hk]
      · simp [Memory.put, Memory.read, hlt, hk, ih]

theorem Memory.read_put_other (m : Memory) {k j : Nat} (v : Byte) (h : j ≠ k) :
    Memory.read (Memory.put m k v) j = Memory.read m j := by
  induction m with
  | nil => simp [Memory.put, Memory.read, h]
  | cons c r ih =>
    obtain ⟨k', v'⟩ := c
    by_cases hlt : k < k'
    · simp [Memory.put, Memory.read, hlt, h]
    · by_cases hk : k = k'
      · subst hk
        simp [Memory.put, Memory.read, h]
      · simp [Memory.put, Memory.read, hlt, hk, ih]

/-- A read after a write to the same index gives the value written (R67). -/
@[simp] theorem Memory.read_write_same (m : Memory) (k : Nat) (v : Byte) :
    Memory.read (Memory.write m k v) k = v := by
  unfold Memory.write
  split
  · next h => rw [Memory.read_erase_same, h]
  · exact Memory.read_put_same m k v

/-- A write leaves every other index alone (R67). -/
theorem Memory.read_write_other (m : Memory) {k j : Nat} (v : Byte) (h : j ≠ k) :
    Memory.read (Memory.write m k v) j = Memory.read m j := by
  unfold Memory.write
  split
  · exact Memory.read_erase_other m h
  · exact Memory.read_put_other m v h

theorem Memory.wfFrom_cons {lo size k : Nat} {v : Byte} {r : Memory} :
    Memory.wfFrom lo size ((k, v) :: r) = true ↔
      lo ≤ k ∧ k < size ∧ v ≠ Memory.unlisted ∧ Memory.wfFrom (k + 1) size r = true := by
  simp [Memory.wfFrom, and_assoc]

theorem Memory.wfFrom_mono {lo lo' size : Nat} {m : Memory} (h : lo' ≤ lo) (hm : Memory.wfFrom lo size m = true) :
    Memory.wfFrom lo' size m = true := by
  cases m with
  | nil => rfl
  | cons c r =>
    obtain ⟨k, v⟩ := c
    rw [Memory.wfFrom_cons] at hm ⊢
    exact ⟨h.trans hm.1, hm.2⟩

theorem Memory.wfFrom_erase {lo size : Nat} {m : Memory} (k : Nat) (hm : Memory.wfFrom lo size m = true) :
    Memory.wfFrom lo size (Memory.erase m k) = true := by
  induction m generalizing lo with
  | nil => rfl
  | cons c r ih =>
    obtain ⟨k', v⟩ := c
    rw [Memory.wfFrom_cons] at hm
    by_cases h : k = k'
    · simp only [Memory.erase, h, if_true]
      exact h ▸ ih (Memory.wfFrom_mono (by omega) hm.2.2.2)
    · simp only [Memory.erase, h, if_false]
      rw [Memory.wfFrom_cons]
      exact ⟨hm.1, hm.2.1, hm.2.2.1, ih hm.2.2.2⟩

theorem Memory.wfFrom_put {lo size k : Nat} {v : Byte} {m : Memory} (hlo : lo ≤ k) (hk : k < size)
    (hv : v ≠ Memory.unlisted) (hm : Memory.wfFrom lo size m = true) :
    Memory.wfFrom lo size (Memory.put m k v) = true := by
  induction m generalizing lo with
  | nil => exact Memory.wfFrom_cons.mpr ⟨hlo, hk, hv, rfl⟩
  | cons c r ih =>
    obtain ⟨k', v'⟩ := c
    have hm' := Memory.wfFrom_cons.mp hm
    by_cases hlt : k < k'
    · simp only [Memory.put, hlt, if_true]
      exact Memory.wfFrom_cons.mpr ⟨hlo, hk, hv, Memory.wfFrom_cons.mpr ⟨hlt, hm'.2⟩⟩
    · by_cases he : k = k'
      · subst he
        simp only [Memory.put, hlt, if_true, if_false]
        exact Memory.wfFrom_cons.mpr ⟨hlo, hk, hv, hm'.2.2.2⟩
      · simp only [Memory.put, hlt, he, if_false]
        exact Memory.wfFrom_cons.mpr ⟨hm'.1, hm'.2.1, hm'.2.2.1, ih (by omega) hm'.2.2.2⟩

/-- A write inside the array keeps the canonical form. -/
theorem Memory.wf_write {size k : Nat} {m : Memory} (v : Byte) (hk : k < size) (hm : Memory.wf size m = true) :
    Memory.wf size (Memory.write m k v) = true := by
  unfold Memory.write
  split
  · exact Memory.wfFrom_erase k hm
  · next hv => exact Memory.wfFrom_put (Nat.zero_le k) hk hv hm

theorem Memory.wf_nil (size : Nat) : Memory.wf size [] = true := rfl

theorem Memory.read_below {lo size : Nat} {m : Memory} (hm : Memory.wfFrom lo size m = true) {k : Nat} (hk : k < lo) :
    Memory.read m k = Memory.unlisted := by
  induction m generalizing lo with
  | nil => rfl
  | cons c r ih =>
    obtain ⟨k', v⟩ := c
    rw [Memory.wfFrom_cons] at hm
    have : k ≠ k' := by omega
    simpa [Memory.read, this] using ih hm.2.2.2 (by omega)

/-- Equal contents are equal data: two canonical arrays that read the same everywhere are the same list. -/
theorem Memory.ext_wfFrom {lo size : Nat} {m m' : Memory} (hm : Memory.wfFrom lo size m = true)
    (hm' : Memory.wfFrom lo size m' = true) (h : ∀ k, Memory.read m k = Memory.read m' k) : m = m' := by
  induction m generalizing m' lo with
  | nil =>
    cases m' with
    | nil => rfl
    | cons c r =>
      obtain ⟨k, v⟩ := c
      have := h k
      rw [Memory.wfFrom_cons] at hm'
      simp [Memory.read] at this
      exact absurd this.symm hm'.2.2.1
  | cons c r ih =>
    obtain ⟨k, v⟩ := c
    have hc := Memory.wfFrom_cons.mp hm
    cases m' with
    | nil =>
      have := h k
      simp [Memory.read] at this
      exact absurd this hc.2.2.1
    | cons c' r' =>
      obtain ⟨k', v'⟩ := c'
      have hc' := Memory.wfFrom_cons.mp hm'
      have hkk : k = k' := by
        rcases Nat.lt_trichotomy k k' with hlt | heq | hgt
        · have h1 := h k
          rw [Memory.read_below (Memory.wfFrom_cons.mpr ⟨hlt, hc'.2⟩) (Nat.lt_succ_self k)] at h1
          simp [Memory.read] at h1
          exact absurd h1 hc.2.2.1
        · exact heq
        · have h1 := h k'
          rw [Memory.read_below (Memory.wfFrom_cons.mpr ⟨hgt, hc.2⟩) (Nat.lt_succ_self k')] at h1
          simp [Memory.read] at h1
          exact absurd h1.symm hc'.2.2.1
      subst hkk
      have hv : v = v' := by simpa [Memory.read] using h k
      subst hv
      rw [ih hc.2.2.2 hc'.2.2.2 fun j => ?_]
      by_cases hj : j = k
      · subst hj
        rw [Memory.read_below hc.2.2.2 (Nat.lt_succ_self j), Memory.read_below hc'.2.2.2 (Nat.lt_succ_self j)]
      · simpa [Memory.read, hj] using h j

end Sys2Proof.Machine
end

