-- ==== Sys2Proof/Laws/State.lean ====
section
/-!
SUPPORT. One lemma per field per register update, each true by rfl, so that no proof unfolds a record update.
-/

namespace Sys2Proof.Machine

@[simp] theorem State.setA_a (s : State) (v : Byte) : (s.setA v).a = v := rfl
@[simp] theorem State.setA_x (s : State) (v : Byte) : (s.setA v).x = s.x := rfl
@[simp] theorem State.setA_y (s : State) (v : Byte) : (s.setA v).y = s.y := rfl
@[simp] theorem State.setA_sp (s : State) (v : Byte) : (s.setA v).sp = s.sp := rfl
@[simp] theorem State.setA_p (s : State) (v : Byte) : (s.setA v).p = s.p := rfl
@[simp] theorem State.setA_pc (s : State) (v : Byte) : (s.setA v).pc = s.pc := rfl
@[simp] theorem State.setA_cyc (s : State) (v : Byte) : (s.setA v).cyc = s.cyc := rfl
@[simp] theorem State.setA_ram (s : State) (v : Byte) : (s.setA v).ram = s.ram := rfl
@[simp] theorem State.setA_sram (s : State) (v : Byte) : (s.setA v).sram = s.sram := rfl
@[simp] theorem State.setA_apu (s : State) (v : Byte) : (s.setA v).apu = s.apu := rfl
@[simp] theorem State.setA_diag (s : State) (v : Byte) : (s.setA v).diag = s.diag := rfl
@[simp] theorem State.setA_run (s : State) (v : Byte) : (s.setA v).run = s.run := rfl
@[simp] theorem State.setA_events (s : State) (v : Byte) : (s.setA v).events = s.events := rfl
@[simp] theorem State.setA_prg (s : State) (v : Byte) : (s.setA v).prg = s.prg := rfl
@[simp] theorem State.setA_cfg (s : State) (v : Byte) : (s.setA v).cfg = s.cfg := rfl
@[simp] theorem State.setA_drawIndex (s : State) (v : Byte) : (s.setA v).drawIndex = s.drawIndex := rfl

@[simp] theorem State.setX_a (s : State) (v : Byte) : (s.setX v).a = s.a := rfl
@[simp] theorem State.setX_x (s : State) (v : Byte) : (s.setX v).x = v := rfl
@[simp] theorem State.setX_y (s : State) (v : Byte) : (s.setX v).y = s.y := rfl
@[simp] theorem State.setX_sp (s : State) (v : Byte) : (s.setX v).sp = s.sp := rfl
@[simp] theorem State.setX_p (s : State) (v : Byte) : (s.setX v).p = s.p := rfl
@[simp] theorem State.setX_pc (s : State) (v : Byte) : (s.setX v).pc = s.pc := rfl
@[simp] theorem State.setX_cyc (s : State) (v : Byte) : (s.setX v).cyc = s.cyc := rfl
@[simp] theorem State.setX_ram (s : State) (v : Byte) : (s.setX v).ram = s.ram := rfl
@[simp] theorem State.setX_sram (s : State) (v : Byte) : (s.setX v).sram = s.sram := rfl
@[simp] theorem State.setX_apu (s : State) (v : Byte) : (s.setX v).apu = s.apu := rfl
@[simp] theorem State.setX_diag (s : State) (v : Byte) : (s.setX v).diag = s.diag := rfl
@[simp] theorem State.setX_run (s : State) (v : Byte) : (s.setX v).run = s.run := rfl
@[simp] theorem State.setX_events (s : State) (v : Byte) : (s.setX v).events = s.events := rfl
@[simp] theorem State.setX_prg (s : State) (v : Byte) : (s.setX v).prg = s.prg := rfl
@[simp] theorem State.setX_cfg (s : State) (v : Byte) : (s.setX v).cfg = s.cfg := rfl
@[simp] theorem State.setX_drawIndex (s : State) (v : Byte) : (s.setX v).drawIndex = s.drawIndex := rfl

@[simp] theorem State.setY_a (s : State) (v : Byte) : (s.setY v).a = s.a := rfl
@[simp] theorem State.setY_x (s : State) (v : Byte) : (s.setY v).x = s.x := rfl
@[simp] theorem State.setY_y (s : State) (v : Byte) : (s.setY v).y = v := rfl
@[simp] theorem State.setY_sp (s : State) (v : Byte) : (s.setY v).sp = s.sp := rfl
@[simp] theorem State.setY_p (s : State) (v : Byte) : (s.setY v).p = s.p := rfl
@[simp] theorem State.setY_pc (s : State) (v : Byte) : (s.setY v).pc = s.pc := rfl
@[simp] theorem State.setY_cyc (s : State) (v : Byte) : (s.setY v).cyc = s.cyc := rfl
@[simp] theorem State.setY_ram (s : State) (v : Byte) : (s.setY v).ram = s.ram := rfl
@[simp] theorem State.setY_sram (s : State) (v : Byte) : (s.setY v).sram = s.sram := rfl
@[simp] theorem State.setY_apu (s : State) (v : Byte) : (s.setY v).apu = s.apu := rfl
@[simp] theorem State.setY_diag (s : State) (v : Byte) : (s.setY v).diag = s.diag := rfl
@[simp] theorem State.setY_run (s : State) (v : Byte) : (s.setY v).run = s.run := rfl
@[simp] theorem State.setY_events (s : State) (v : Byte) : (s.setY v).events = s.events := rfl
@[simp] theorem State.setY_prg (s : State) (v : Byte) : (s.setY v).prg = s.prg := rfl
@[simp] theorem State.setY_cfg (s : State) (v : Byte) : (s.setY v).cfg = s.cfg := rfl
@[simp] theorem State.setY_drawIndex (s : State) (v : Byte) : (s.setY v).drawIndex = s.drawIndex := rfl

@[simp] theorem State.setSp_a (s : State) (v : Byte) : (s.setSp v).a = s.a := rfl
@[simp] theorem State.setSp_x (s : State) (v : Byte) : (s.setSp v).x = s.x := rfl
@[simp] theorem State.setSp_y (s : State) (v : Byte) : (s.setSp v).y = s.y := rfl
@[simp] theorem State.setSp_sp (s : State) (v : Byte) : (s.setSp v).sp = v := rfl
@[simp] theorem State.setSp_p (s : State) (v : Byte) : (s.setSp v).p = s.p := rfl
@[simp] theorem State.setSp_pc (s : State) (v : Byte) : (s.setSp v).pc = s.pc := rfl
@[simp] theorem State.setSp_cyc (s : State) (v : Byte) : (s.setSp v).cyc = s.cyc := rfl
@[simp] theorem State.setSp_ram (s : State) (v : Byte) : (s.setSp v).ram = s.ram := rfl
@[simp] theorem State.setSp_sram (s : State) (v : Byte) : (s.setSp v).sram = s.sram := rfl
@[simp] theorem State.setSp_apu (s : State) (v : Byte) : (s.setSp v).apu = s.apu := rfl
@[simp] theorem State.setSp_diag (s : State) (v : Byte) : (s.setSp v).diag = s.diag := rfl
@[simp] theorem State.setSp_run (s : State) (v : Byte) : (s.setSp v).run = s.run := rfl
@[simp] theorem State.setSp_events (s : State) (v : Byte) : (s.setSp v).events = s.events := rfl
@[simp] theorem State.setSp_prg (s : State) (v : Byte) : (s.setSp v).prg = s.prg := rfl
@[simp] theorem State.setSp_cfg (s : State) (v : Byte) : (s.setSp v).cfg = s.cfg := rfl
@[simp] theorem State.setSp_drawIndex (s : State) (v : Byte) : (s.setSp v).drawIndex = s.drawIndex := rfl

@[simp] theorem State.setP_a (s : State) (v : Byte) : (s.setP v).a = s.a := rfl
@[simp] theorem State.setP_x (s : State) (v : Byte) : (s.setP v).x = s.x := rfl
@[simp] theorem State.setP_y (s : State) (v : Byte) : (s.setP v).y = s.y := rfl
@[simp] theorem State.setP_sp (s : State) (v : Byte) : (s.setP v).sp = s.sp := rfl
@[simp] theorem State.setP_p (s : State) (v : Byte) : (s.setP v).p = v := rfl
@[simp] theorem State.setP_pc (s : State) (v : Byte) : (s.setP v).pc = s.pc := rfl
@[simp] theorem State.setP_cyc (s : State) (v : Byte) : (s.setP v).cyc = s.cyc := rfl
@[simp] theorem State.setP_ram (s : State) (v : Byte) : (s.setP v).ram = s.ram := rfl
@[simp] theorem State.setP_sram (s : State) (v : Byte) : (s.setP v).sram = s.sram := rfl
@[simp] theorem State.setP_apu (s : State) (v : Byte) : (s.setP v).apu = s.apu := rfl
@[simp] theorem State.setP_diag (s : State) (v : Byte) : (s.setP v).diag = s.diag := rfl
@[simp] theorem State.setP_run (s : State) (v : Byte) : (s.setP v).run = s.run := rfl
@[simp] theorem State.setP_events (s : State) (v : Byte) : (s.setP v).events = s.events := rfl
@[simp] theorem State.setP_prg (s : State) (v : Byte) : (s.setP v).prg = s.prg := rfl
@[simp] theorem State.setP_cfg (s : State) (v : Byte) : (s.setP v).cfg = s.cfg := rfl
@[simp] theorem State.setP_drawIndex (s : State) (v : Byte) : (s.setP v).drawIndex = s.drawIndex := rfl

@[simp] theorem State.setPc_a (s : State) (w : Word) : (s.setPc w).a = s.a := rfl
@[simp] theorem State.setPc_x (s : State) (w : Word) : (s.setPc w).x = s.x := rfl
@[simp] theorem State.setPc_y (s : State) (w : Word) : (s.setPc w).y = s.y := rfl
@[simp] theorem State.setPc_sp (s : State) (w : Word) : (s.setPc w).sp = s.sp := rfl
@[simp] theorem State.setPc_p (s : State) (w : Word) : (s.setPc w).p = s.p := rfl
@[simp] theorem State.setPc_pc (s : State) (w : Word) : (s.setPc w).pc = w := rfl
@[simp] theorem State.setPc_cyc (s : State) (w : Word) : (s.setPc w).cyc = s.cyc := rfl
@[simp] theorem State.setPc_ram (s : State) (w : Word) : (s.setPc w).ram = s.ram := rfl
@[simp] theorem State.setPc_sram (s : State) (w : Word) : (s.setPc w).sram = s.sram := rfl
@[simp] theorem State.setPc_apu (s : State) (w : Word) : (s.setPc w).apu = s.apu := rfl
@[simp] theorem State.setPc_diag (s : State) (w : Word) : (s.setPc w).diag = s.diag := rfl
@[simp] theorem State.setPc_run (s : State) (w : Word) : (s.setPc w).run = s.run := rfl
@[simp] theorem State.setPc_events (s : State) (w : Word) : (s.setPc w).events = s.events := rfl
@[simp] theorem State.setPc_prg (s : State) (w : Word) : (s.setPc w).prg = s.prg := rfl
@[simp] theorem State.setPc_cfg (s : State) (w : Word) : (s.setPc w).cfg = s.cfg := rfl
@[simp] theorem State.setPc_drawIndex (s : State) (w : Word) : (s.setPc w).drawIndex = s.drawIndex := rfl

@[simp] theorem State.addCyc_a (s : State) (n : Nat) : (s.addCyc n).a = s.a := rfl
@[simp] theorem State.addCyc_x (s : State) (n : Nat) : (s.addCyc n).x = s.x := rfl
@[simp] theorem State.addCyc_y (s : State) (n : Nat) : (s.addCyc n).y = s.y := rfl
@[simp] theorem State.addCyc_sp (s : State) (n : Nat) : (s.addCyc n).sp = s.sp := rfl
@[simp] theorem State.addCyc_p (s : State) (n : Nat) : (s.addCyc n).p = s.p := rfl
@[simp] theorem State.addCyc_pc (s : State) (n : Nat) : (s.addCyc n).pc = s.pc := rfl
@[simp] theorem State.addCyc_cyc (s : State) (n : Nat) : (s.addCyc n).cyc = s.cyc + n := rfl
@[simp] theorem State.addCyc_ram (s : State) (n : Nat) : (s.addCyc n).ram = s.ram := rfl
@[simp] theorem State.addCyc_sram (s : State) (n : Nat) : (s.addCyc n).sram = s.sram := rfl
@[simp] theorem State.addCyc_apu (s : State) (n : Nat) : (s.addCyc n).apu = s.apu := rfl
@[simp] theorem State.addCyc_diag (s : State) (n : Nat) : (s.addCyc n).diag = s.diag := rfl
@[simp] theorem State.addCyc_run (s : State) (n : Nat) : (s.addCyc n).run = s.run := rfl
@[simp] theorem State.addCyc_events (s : State) (n : Nat) : (s.addCyc n).events = s.events := rfl
@[simp] theorem State.addCyc_prg (s : State) (n : Nat) : (s.addCyc n).prg = s.prg := rfl
@[simp] theorem State.addCyc_cfg (s : State) (n : Nat) : (s.addCyc n).cfg = s.cfg := rfl
@[simp] theorem State.addCyc_drawIndex (s : State) (n : Nat) : (s.addCyc n).drawIndex = s.drawIndex := rfl

@[simp] theorem State.setRam_a (s : State) (m : Memory) : (s.setRam m).a = s.a := rfl
@[simp] theorem State.setRam_x (s : State) (m : Memory) : (s.setRam m).x = s.x := rfl
@[simp] theorem State.setRam_y (s : State) (m : Memory) : (s.setRam m).y = s.y := rfl
@[simp] theorem State.setRam_sp (s : State) (m : Memory) : (s.setRam m).sp = s.sp := rfl
@[simp] theorem State.setRam_p (s : State) (m : Memory) : (s.setRam m).p = s.p := rfl
@[simp] theorem State.setRam_pc (s : State) (m : Memory) : (s.setRam m).pc = s.pc := rfl
@[simp] theorem State.setRam_cyc (s : State) (m : Memory) : (s.setRam m).cyc = s.cyc := rfl
@[simp] theorem State.setRam_ram (s : State) (m : Memory) : (s.setRam m).ram = m := rfl
@[simp] theorem State.setRam_sram (s : State) (m : Memory) : (s.setRam m).sram = s.sram := rfl
@[simp] theorem State.setRam_apu (s : State) (m : Memory) : (s.setRam m).apu = s.apu := rfl
@[simp] theorem State.setRam_diag (s : State) (m : Memory) : (s.setRam m).diag = s.diag := rfl
@[simp] theorem State.setRam_run (s : State) (m : Memory) : (s.setRam m).run = s.run := rfl
@[simp] theorem State.setRam_events (s : State) (m : Memory) : (s.setRam m).events = s.events := rfl
@[simp] theorem State.setRam_prg (s : State) (m : Memory) : (s.setRam m).prg = s.prg := rfl
@[simp] theorem State.setRam_cfg (s : State) (m : Memory) : (s.setRam m).cfg = s.cfg := rfl
@[simp] theorem State.setRam_drawIndex (s : State) (m : Memory) : (s.setRam m).drawIndex = s.drawIndex := rfl

@[simp] theorem State.setSram_a (s : State) (m : Memory) : (s.setSram m).a = s.a := rfl
@[simp] theorem State.setSram_x (s : State) (m : Memory) : (s.setSram m).x = s.x := rfl
@[simp] theorem State.setSram_y (s : State) (m : Memory) : (s.setSram m).y = s.y := rfl
@[simp] theorem State.setSram_sp (s : State) (m : Memory) : (s.setSram m).sp = s.sp := rfl
@[simp] theorem State.setSram_p (s : State) (m : Memory) : (s.setSram m).p = s.p := rfl
@[simp] theorem State.setSram_pc (s : State) (m : Memory) : (s.setSram m).pc = s.pc := rfl
@[simp] theorem State.setSram_cyc (s : State) (m : Memory) : (s.setSram m).cyc = s.cyc := rfl
@[simp] theorem State.setSram_ram (s : State) (m : Memory) : (s.setSram m).ram = s.ram := rfl
@[simp] theorem State.setSram_sram (s : State) (m : Memory) : (s.setSram m).sram = m := rfl
@[simp] theorem State.setSram_apu (s : State) (m : Memory) : (s.setSram m).apu = s.apu := rfl
@[simp] theorem State.setSram_diag (s : State) (m : Memory) : (s.setSram m).diag = s.diag := rfl
@[simp] theorem State.setSram_run (s : State) (m : Memory) : (s.setSram m).run = s.run := rfl
@[simp] theorem State.setSram_events (s : State) (m : Memory) : (s.setSram m).events = s.events := rfl
@[simp] theorem State.setSram_prg (s : State) (m : Memory) : (s.setSram m).prg = s.prg := rfl
@[simp] theorem State.setSram_cfg (s : State) (m : Memory) : (s.setSram m).cfg = s.cfg := rfl
@[simp] theorem State.setSram_drawIndex (s : State) (m : Memory) : (s.setSram m).drawIndex = s.drawIndex := rfl

@[simp] theorem State.setApu_a (s : State) (m : Memory) : (s.setApu m).a = s.a := rfl
@[simp] theorem State.setApu_x (s : State) (m : Memory) : (s.setApu m).x = s.x := rfl
@[simp] theorem State.setApu_y (s : State) (m : Memory) : (s.setApu m).y = s.y := rfl
@[simp] theorem State.setApu_sp (s : State) (m : Memory) : (s.setApu m).sp = s.sp := rfl
@[simp] theorem State.setApu_p (s : State) (m : Memory) : (s.setApu m).p = s.p := rfl
@[simp] theorem State.setApu_pc (s : State) (m : Memory) : (s.setApu m).pc = s.pc := rfl
@[simp] theorem State.setApu_cyc (s : State) (m : Memory) : (s.setApu m).cyc = s.cyc := rfl
@[simp] theorem State.setApu_ram (s : State) (m : Memory) : (s.setApu m).ram = s.ram := rfl
@[simp] theorem State.setApu_sram (s : State) (m : Memory) : (s.setApu m).sram = s.sram := rfl
@[simp] theorem State.setApu_apu (s : State) (m : Memory) : (s.setApu m).apu = m := rfl
@[simp] theorem State.setApu_diag (s : State) (m : Memory) : (s.setApu m).diag = s.diag := rfl
@[simp] theorem State.setApu_run (s : State) (m : Memory) : (s.setApu m).run = s.run := rfl
@[simp] theorem State.setApu_events (s : State) (m : Memory) : (s.setApu m).events = s.events := rfl
@[simp] theorem State.setApu_prg (s : State) (m : Memory) : (s.setApu m).prg = s.prg := rfl
@[simp] theorem State.setApu_cfg (s : State) (m : Memory) : (s.setApu m).cfg = s.cfg := rfl
@[simp] theorem State.setApu_drawIndex (s : State) (m : Memory) : (s.setApu m).drawIndex = s.drawIndex := rfl

@[simp] theorem State.setRun_a (s : State) (r : RunStatus) : (s.setRun r).a = s.a := rfl
@[simp] theorem State.setRun_x (s : State) (r : RunStatus) : (s.setRun r).x = s.x := rfl
@[simp] theorem State.setRun_y (s : State) (r : RunStatus) : (s.setRun r).y = s.y := rfl
@[simp] theorem State.setRun_sp (s : State) (r : RunStatus) : (s.setRun r).sp = s.sp := rfl
@[simp] theorem State.setRun_p (s : State) (r : RunStatus) : (s.setRun r).p = s.p := rfl
@[simp] theorem State.setRun_pc (s : State) (r : RunStatus) : (s.setRun r).pc = s.pc := rfl
@[simp] theorem State.setRun_cyc (s : State) (r : RunStatus) : (s.setRun r).cyc = s.cyc := rfl
@[simp] theorem State.setRun_ram (s : State) (r : RunStatus) : (s.setRun r).ram = s.ram := rfl
@[simp] theorem State.setRun_sram (s : State) (r : RunStatus) : (s.setRun r).sram = s.sram := rfl
@[simp] theorem State.setRun_apu (s : State) (r : RunStatus) : (s.setRun r).apu = s.apu := rfl
@[simp] theorem State.setRun_diag (s : State) (r : RunStatus) : (s.setRun r).diag = s.diag := rfl
@[simp] theorem State.setRun_run (s : State) (r : RunStatus) : (s.setRun r).run = r := rfl
@[simp] theorem State.setRun_events (s : State) (r : RunStatus) : (s.setRun r).events = s.events := rfl
@[simp] theorem State.setRun_prg (s : State) (r : RunStatus) : (s.setRun r).prg = s.prg := rfl
@[simp] theorem State.setRun_cfg (s : State) (r : RunStatus) : (s.setRun r).cfg = s.cfg := rfl
@[simp] theorem State.setRun_drawIndex (s : State) (r : RunStatus) : (s.setRun r).drawIndex = s.drawIndex := rfl

@[simp] theorem State.addDiag_a (s : State) (d : Diagnostic) : (s.addDiag d).a = s.a := rfl
@[simp] theorem State.addDiag_x (s : State) (d : Diagnostic) : (s.addDiag d).x = s.x := rfl
@[simp] theorem State.addDiag_y (s : State) (d : Diagnostic) : (s.addDiag d).y = s.y := rfl
@[simp] theorem State.addDiag_sp (s : State) (d : Diagnostic) : (s.addDiag d).sp = s.sp := rfl
@[simp] theorem State.addDiag_p (s : State) (d : Diagnostic) : (s.addDiag d).p = s.p := rfl
@[simp] theorem State.addDiag_pc (s : State) (d : Diagnostic) : (s.addDiag d).pc = s.pc := rfl
@[simp] theorem State.addDiag_cyc (s : State) (d : Diagnostic) : (s.addDiag d).cyc = s.cyc := rfl
@[simp] theorem State.addDiag_ram (s : State) (d : Diagnostic) : (s.addDiag d).ram = s.ram := rfl
@[simp] theorem State.addDiag_sram (s : State) (d : Diagnostic) : (s.addDiag d).sram = s.sram := rfl
@[simp] theorem State.addDiag_apu (s : State) (d : Diagnostic) : (s.addDiag d).apu = s.apu := rfl
@[simp] theorem State.addDiag_diag (s : State) (d : Diagnostic) : (s.addDiag d).diag = s.diag ++ [d] := rfl
@[simp] theorem State.addDiag_run (s : State) (d : Diagnostic) : (s.addDiag d).run = s.run := rfl
@[simp] theorem State.addDiag_events (s : State) (d : Diagnostic) : (s.addDiag d).events = s.events := rfl
@[simp] theorem State.addDiag_prg (s : State) (d : Diagnostic) : (s.addDiag d).prg = s.prg := rfl
@[simp] theorem State.addDiag_cfg (s : State) (d : Diagnostic) : (s.addDiag d).cfg = s.cfg := rfl
@[simp] theorem State.addDiag_drawIndex (s : State) (d : Diagnostic) : (s.addDiag d).drawIndex = s.drawIndex := rfl

@[simp] theorem State.addEvent_a (s : State) (e : Event) : (s.addEvent e).a = s.a := rfl
@[simp] theorem State.addEvent_x (s : State) (e : Event) : (s.addEvent e).x = s.x := rfl
@[simp] theorem State.addEvent_y (s : State) (e : Event) : (s.addEvent e).y = s.y := rfl
@[simp] theorem State.addEvent_sp (s : State) (e : Event) : (s.addEvent e).sp = s.sp := rfl
@[simp] theorem State.addEvent_p (s : State) (e : Event) : (s.addEvent e).p = s.p := rfl
@[simp] theorem State.addEvent_pc (s : State) (e : Event) : (s.addEvent e).pc = s.pc := rfl
@[simp] theorem State.addEvent_cyc (s : State) (e : Event) : (s.addEvent e).cyc = s.cyc := rfl
@[simp] theorem State.addEvent_ram (s : State) (e : Event) : (s.addEvent e).ram = s.ram := rfl
@[simp] theorem State.addEvent_sram (s : State) (e : Event) : (s.addEvent e).sram = s.sram := rfl
@[simp] theorem State.addEvent_apu (s : State) (e : Event) : (s.addEvent e).apu = s.apu := rfl
@[simp] theorem State.addEvent_diag (s : State) (e : Event) : (s.addEvent e).diag = s.diag := rfl
@[simp] theorem State.addEvent_run (s : State) (e : Event) : (s.addEvent e).run = s.run := rfl
@[simp] theorem State.addEvent_events (s : State) (e : Event) : (s.addEvent e).events = s.events ++ [e] := rfl
@[simp] theorem State.addEvent_prg (s : State) (e : Event) : (s.addEvent e).prg = s.prg := rfl
@[simp] theorem State.addEvent_cfg (s : State) (e : Event) : (s.addEvent e).cfg = s.cfg := rfl
@[simp] theorem State.addEvent_drawIndex (s : State) (e : Event) : (s.addEvent e).drawIndex = s.drawIndex := rfl

@[simp] theorem State.nextDraw_a (s : State) : (s.nextDraw).a = s.a := rfl
@[simp] theorem State.nextDraw_x (s : State) : (s.nextDraw).x = s.x := rfl
@[simp] theorem State.nextDraw_y (s : State) : (s.nextDraw).y = s.y := rfl
@[simp] theorem State.nextDraw_sp (s : State) : (s.nextDraw).sp = s.sp := rfl
@[simp] theorem State.nextDraw_p (s : State) : (s.nextDraw).p = s.p := rfl
@[simp] theorem State.nextDraw_pc (s : State) : (s.nextDraw).pc = s.pc := rfl
@[simp] theorem State.nextDraw_cyc (s : State) : (s.nextDraw).cyc = s.cyc := rfl
@[simp] theorem State.nextDraw_ram (s : State) : (s.nextDraw).ram = s.ram := rfl
@[simp] theorem State.nextDraw_sram (s : State) : (s.nextDraw).sram = s.sram := rfl
@[simp] theorem State.nextDraw_apu (s : State) : (s.nextDraw).apu = s.apu := rfl
@[simp] theorem State.nextDraw_diag (s : State) : (s.nextDraw).diag = s.diag := rfl
@[simp] theorem State.nextDraw_run (s : State) : (s.nextDraw).run = s.run := rfl
@[simp] theorem State.nextDraw_events (s : State) : (s.nextDraw).events = s.events := rfl
@[simp] theorem State.nextDraw_prg (s : State) : (s.nextDraw).prg = s.prg := rfl
@[simp] theorem State.nextDraw_cfg (s : State) : (s.nextDraw).cfg = s.cfg := rfl
@[simp] theorem State.nextDraw_drawIndex (s : State) : (s.nextDraw).drawIndex = s.drawIndex + 1 := rfl

@[simp] theorem State.setFlag_a (s : State) (f : Flag) (on : Bool) : (s.setFlag f on).a = s.a := rfl
@[simp] theorem State.setFlag_x (s : State) (f : Flag) (on : Bool) : (s.setFlag f on).x = s.x := rfl
@[simp] theorem State.setFlag_y (s : State) (f : Flag) (on : Bool) : (s.setFlag f on).y = s.y := rfl
@[simp] theorem State.setFlag_sp (s : State) (f : Flag) (on : Bool) : (s.setFlag f on).sp = s.sp := rfl
@[simp] theorem State.setFlag_p (s : State) (f : Flag) (on : Bool) : (s.setFlag f on).p = Machine.setFlag s.p f on := rfl
@[simp] theorem State.setFlag_pc (s : State) (f : Flag) (on : Bool) : (s.setFlag f on).pc = s.pc := rfl
@[simp] theorem State.setFlag_cyc (s : State) (f : Flag) (on : Bool) : (s.setFlag f on).cyc = s.cyc := rfl
@[simp] theorem State.setFlag_ram (s : State) (f : Flag) (on : Bool) : (s.setFlag f on).ram = s.ram := rfl
@[simp] theorem State.setFlag_sram (s : State) (f : Flag) (on : Bool) : (s.setFlag f on).sram = s.sram := rfl
@[simp] theorem State.setFlag_apu (s : State) (f : Flag) (on : Bool) : (s.setFlag f on).apu = s.apu := rfl
@[simp] theorem State.setFlag_diag (s : State) (f : Flag) (on : Bool) : (s.setFlag f on).diag = s.diag := rfl
@[simp] theorem State.setFlag_run (s : State) (f : Flag) (on : Bool) : (s.setFlag f on).run = s.run := rfl
@[simp] theorem State.setFlag_events (s : State) (f : Flag) (on : Bool) : (s.setFlag f on).events = s.events := rfl
@[simp] theorem State.setFlag_prg (s : State) (f : Flag) (on : Bool) : (s.setFlag f on).prg = s.prg := rfl
@[simp] theorem State.setFlag_cfg (s : State) (f : Flag) (on : Bool) : (s.setFlag f on).cfg = s.cfg := rfl
@[simp] theorem State.setFlag_drawIndex (s : State) (f : Flag) (on : Bool) : (s.setFlag f on).drawIndex = s.drawIndex := rfl

@[simp] theorem State.setNZ_a (s : State) (v : Byte) : (s.setNZ v).a = s.a := rfl
@[simp] theorem State.setNZ_x (s : State) (v : Byte) : (s.setNZ v).x = s.x := rfl
@[simp] theorem State.setNZ_y (s : State) (v : Byte) : (s.setNZ v).y = s.y := rfl
@[simp] theorem State.setNZ_sp (s : State) (v : Byte) : (s.setNZ v).sp = s.sp := rfl
@[simp] theorem State.setNZ_p (s : State) (v : Byte) : (s.setNZ v).p = Machine.setNZ v s.p := rfl
@[simp] theorem State.setNZ_pc (s : State) (v : Byte) : (s.setNZ v).pc = s.pc := rfl
@[simp] theorem State.setNZ_cyc (s : State) (v : Byte) : (s.setNZ v).cyc = s.cyc := rfl
@[simp] theorem State.setNZ_ram (s : State) (v : Byte) : (s.setNZ v).ram = s.ram := rfl
@[simp] theorem State.setNZ_sram (s : State) (v : Byte) : (s.setNZ v).sram = s.sram := rfl
@[simp] theorem State.setNZ_apu (s : State) (v : Byte) : (s.setNZ v).apu = s.apu := rfl
@[simp] theorem State.setNZ_diag (s : State) (v : Byte) : (s.setNZ v).diag = s.diag := rfl
@[simp] theorem State.setNZ_run (s : State) (v : Byte) : (s.setNZ v).run = s.run := rfl
@[simp] theorem State.setNZ_events (s : State) (v : Byte) : (s.setNZ v).events = s.events := rfl
@[simp] theorem State.setNZ_prg (s : State) (v : Byte) : (s.setNZ v).prg = s.prg := rfl
@[simp] theorem State.setNZ_cfg (s : State) (v : Byte) : (s.setNZ v).cfg = s.cfg := rfl
@[simp] theorem State.setNZ_drawIndex (s : State) (v : Byte) : (s.setNZ v).drawIndex = s.drawIndex := rfl

end Sys2Proof.Machine
end

