-- ==== Sys2Proof/Laws/Word.lean ====
section
/-!
SUPPORT. Splitting a word into its bytes and joining them again.
-/

namespace Sys2Proof

@[simp] theorem lo8_wordOf (hi lo : Byte) : lo8 (wordOf hi lo) = lo := by
  apply BitVec.eq_of_getLsbD_eq
  intro i hi
  simp [BitVec.getLsbD_append, hi]

@[simp] theorem hi8_wordOf (hi lo : Byte) : hi8 (wordOf hi lo) = hi := by
  apply BitVec.eq_of_getLsbD_eq
  intro i hi
  simp [BitVec.getLsbD_append, hi]

@[simp] theorem wordOf_hi8_lo8 (w : Word) : wordOf (hi8 w) (lo8 w) = w := by
  apply BitVec.eq_of_getLsbD_eq
  intro i hi
  simp only [BitVec.getLsbD_append, BitVec.getLsbD_extractLsb']
  by_cases h : i < 8
  · simp [h]
  · have h1 : i - 8 < 8 := by omega
    have h2 : 8 + (i - 8) = i := by omega
    simp [h, h1, h2]

theorem toNat_wordOf (hi lo : Byte) : (wordOf hi lo).toNat = lo.toNat + 256 * hi.toNat := by
  have := hi.isLt
  have := lo.isLt
  simp only [wordOf, BitVec.toNat_append]
  rw [Nat.shiftLeft_eq, Nat.mul_comm, ← Nat.two_pow_add_eq_or_of_lt (i := 8) lo.isLt]
  omega

theorem toNat_hi8 (w : Word) : (hi8 w).toNat = w.toNat / 256 := by
  have := w.isLt
  simp [BitVec.extractLsb'_toNat, Nat.shiftRight_eq_div_pow]
  omega

theorem toNat_zext16 (b : Byte) : (zext16 b).toNat = b.toNat := by
  have := b.isLt
  simp
  omega

theorem lo8_add_one (w : Word) : lo8 (w + 1) = lo8 w + 1 := by
  apply BitVec.eq_of_toNat_eq
  simp [BitVec.toNat_add, BitVec.extractLsb'_toNat]

end Sys2Proof
end

