-- ==== Sys2Proof/Laws/Bus.lean ====
section
/-!
SUPPORT. What a bus access can do (spec/20_memory.md): a read changes at most EVENTS and the draw counter; a write changes
at most one cell and EVENTS. And what the stack operations do: the stack page is RAM, so they touch nothing else.
-/

namespace Sys2Proof.Machine

/-! ## Reads -/

/-- All that a read can do to the state: nothing, or one recorded draw, or one recorded constant. -/
theorem busRead_state (a : Word) (s : State) :
    (busRead a s).2 = s
      ∨ (∃ reg, (busRead a s).2 = s.nextDraw.addEvent ⟨.rd, reg, (busRead a s).1⟩)
      ∨ (busRead a s).2 = s.addEvent ⟨.rd, a, (busRead a s).1⟩ := by
  unfold busRead
  cases busTarget a
  case ram => exact Or.inl rfl
  case pixel reg => exact Or.inr (Or.inl ⟨reg, rfl⟩)
  case audio => exact Or.inr (Or.inl ⟨a, rfl⟩)
  case dma => exact Or.inr (Or.inl ⟨a, rfl⟩)
  case input => exact Or.inr (Or.inl ⟨a, rfl⟩)
  case unmapped => exact Or.inr (Or.inr rfl)
  case save => exact Or.inl rfl
  case program => exact Or.inl rfl

@[simp] theorem busRead_a (a : Word) (s : State) : (busRead a s).2.a = s.a := by
  rcases busRead_state a s with h | ⟨_, h⟩ | h <;> rw [h] <;> rfl
@[simp] theorem busRead_x (a : Word) (s : State) : (busRead a s).2.x = s.x := by
  rcases busRead_state a s with h | ⟨_, h⟩ | h <;> rw [h] <;> rfl
@[simp] theorem busRead_y (a : Word) (s : State) : (busRead a s).2.y = s.y := by
  rcases busRead_state a s with h | ⟨_, h⟩ | h <;> rw [h] <;> rfl
@[simp] theorem busRead_sp (a : Word) (s : State) : (busRead a s).2.sp = s.sp := by
  rcases busRead_state a s with h | ⟨_, h⟩ | h <;> rw [h] <;> rfl
@[simp] theorem busRead_p (a : Word) (s : State) : (busRead a s).2.p = s.p := by
  rcases busRead_state a s with h | ⟨_, h⟩ | h <;> rw [h] <;> rfl
@[simp] theorem busRead_pc (a : Word) (s : State) : (busRead a s).2.pc = s.pc := by
  rcases busRead_state a s with h | ⟨_, h⟩ | h <;> rw [h] <;> rfl
@[simp] theorem busRead_cyc (a : Word) (s : State) : (busRead a s).2.cyc = s.cyc := by
  rcases busRead_state a s with h | ⟨_, h⟩ | h <;> rw [h] <;> rfl
@[simp] theorem busRead_ram (a : Word) (s : State) : (busRead a s).2.ram = s.ram := by
  rcases busRead_state a s with h | ⟨_, h⟩ | h <;> rw [h] <;> rfl
@[simp] theorem busRead_sram (a : Word) (s : State) : (busRead a s).2.sram = s.sram := by
  rcases busRead_state a s with h | ⟨_, h⟩ | h <;> rw [h] <;> rfl
@[simp] theorem busRead_apu (a : Word) (s : State) : (busRead a s).2.apu = s.apu := by
  rcases busRead_state a s with h | ⟨_, h⟩ | h <;> rw [h] <;> rfl
@[simp] theorem busRead_diag (a : Word) (s : State) : (busRead a s).2.diag = s.diag := by
  rcases busRead_state a s with h | ⟨_, h⟩ | h <;> rw [h] <;> rfl
@[simp] theorem busRead_run (a : Word) (s : State) : (busRead a s).2.run = s.run := by
  rcases busRead_state a s with h | ⟨_, h⟩ | h <;> rw [h] <;> rfl
@[simp] theorem busRead_prg (a : Word) (s : State) : (busRead a s).2.prg = s.prg := by
  rcases busRead_state a s with h | ⟨_, h⟩ | h <;> rw [h] <;> rfl
@[simp] theorem busRead_cfg (a : Word) (s : State) : (busRead a s).2.cfg = s.cfg := by
  rcases busRead_state a s with h | ⟨_, h⟩ | h <;> rw [h] <;> rfl

/-- A read only appends to EVENTS (R46). -/
theorem busRead_events (a : Word) (s : State) : ∃ es, (busRead a s).2.events = s.events ++ es := by
  rcases busRead_state a s with h | ⟨reg, h⟩ | h
  · exact ⟨[], by rw [h]; simp⟩
  · exact ⟨[⟨.rd, reg, (busRead a s).1⟩], by rw [h]; rfl⟩
  · exact ⟨[⟨.rd, a, (busRead a s).1⟩], by rw [h]; rfl⟩

/-- A read of a RAM cell (R52). -/
theorem busRead_of_ram {a : Word} {i : Nat} (h : busTarget a = .ram i) (s : State) :
    busRead a s = (Memory.read s.ram i, s) := by
  simp [busRead, h]

/-- A read of a storable address is its Peek and changes nothing (R79). -/
theorem busRead_eq_peek {a : Word} (s : State)
    (h : (∃ i, busTarget a = .ram i) ∨ (∃ i, busTarget a = .save i) ∨ busTarget a = .program) :
    busRead a s = (s.peek a, s) := by
  rcases h with ⟨i, h⟩ | ⟨i, h⟩ | h <;> simp [busRead, State.peek, h]

/-- Peek depends only on RAM, save storage, the image and the configuration (R79). -/
theorem peek_congr {s t : State} (a : Word) (hr : t.ram = s.ram) (hs : t.sram = s.sram) (hp : t.prg = s.prg)
    (hc : t.cfg = s.cfg) : t.peek a = s.peek a := by
  unfold State.peek State.programByte
  rw [hr, hs, hp, hc]

/-! ## Writes -/

@[simp] theorem busWrite_a (a : Word) (v : Byte) (s : State) : (busWrite a v s).a = s.a := by
  unfold busWrite
  cases busTarget a <;> rfl
@[simp] theorem busWrite_x (a : Word) (v : Byte) (s : State) : (busWrite a v s).x = s.x := by
  unfold busWrite
  cases busTarget a <;> rfl
@[simp] theorem busWrite_y (a : Word) (v : Byte) (s : State) : (busWrite a v s).y = s.y := by
  unfold busWrite
  cases busTarget a <;> rfl
@[simp] theorem busWrite_sp (a : Word) (v : Byte) (s : State) : (busWrite a v s).sp = s.sp := by
  unfold busWrite
  cases busTarget a <;> rfl
@[simp] theorem busWrite_p (a : Word) (v : Byte) (s : State) : (busWrite a v s).p = s.p := by
  unfold busWrite
  cases busTarget a <;> rfl
@[simp] theorem busWrite_pc (a : Word) (v : Byte) (s : State) : (busWrite a v s).pc = s.pc := by
  unfold busWrite
  cases busTarget a <;> rfl
@[simp] theorem busWrite_cyc (a : Word) (v : Byte) (s : State) : (busWrite a v s).cyc = s.cyc := by
  unfold busWrite
  cases busTarget a <;> rfl
@[simp] theorem busWrite_diag (a : Word) (v : Byte) (s : State) : (busWrite a v s).diag = s.diag := by
  unfold busWrite
  cases busTarget a <;> rfl
@[simp] theorem busWrite_run (a : Word) (v : Byte) (s : State) : (busWrite a v s).run = s.run := by
  unfold busWrite
  cases busTarget a <;> rfl
@[simp] theorem busWrite_prg (a : Word) (v : Byte) (s : State) : (busWrite a v s).prg = s.prg := by
  unfold busWrite
  cases busTarget a <;> rfl
@[simp] theorem busWrite_cfg (a : Word) (v : Byte) (s : State) : (busWrite a v s).cfg = s.cfg := by
  unfold busWrite
  cases busTarget a <;> rfl
@[simp] theorem busWrite_drawIndex (a : Word) (v : Byte) (s : State) : (busWrite a v s).drawIndex = s.drawIndex := by
  unfold busWrite
  cases busTarget a <;> rfl

/-- A write only appends to EVENTS (R46). -/
theorem busWrite_events (a : Word) (v : Byte) (s : State) : ∃ es, (busWrite a v s).events = s.events ++ es := by
  unfold busWrite
  cases busTarget a
  case ram => exact ⟨[], by simp⟩
  case pixel reg => exact ⟨[⟨.wr, reg, v⟩], rfl⟩
  case audio => exact ⟨[⟨.wr, a, v⟩], rfl⟩
  case dma => exact ⟨[⟨.wr, a, v⟩], rfl⟩
  case input => exact ⟨[⟨.wr, a, v⟩], rfl⟩
  case unmapped => exact ⟨[⟨.wr, a, v⟩], rfl⟩
  case save => exact ⟨[], by simp⟩
  case program => exact ⟨[], by simp⟩

/-- A write to a RAM cell (R52). -/
theorem busWrite_of_ram {a : Word} {i : Nat} (h : busTarget a = .ram i) (v : Byte) (s : State) :
    busWrite a v s = s.setRam (Memory.write s.ram i v) := by
  simp [busWrite, h]

/-- A write leaves the byte at every address that shows another cell alone (R67). -/
theorem peek_busWrite_other {a b : Word} (v : Byte) (s : State) (h : busTarget b ≠ busTarget a) :
    (busWrite a v s).peek b = s.peek b := by
  unfold busWrite
  cases ha : busTarget a
  case ram i =>
    cases hb : busTarget b
    case ram j =>
      have : j ≠ i := by
        intro e
        exact h (by rw [ha, hb, e])
      simp [State.peek, hb, Memory.read_write_other _ _ this]
    all_goals simp [State.peek, hb, State.programByte]
  case save i =>
    cases hb : busTarget b
    case save j =>
      have : j ≠ i := by
        intro e
        exact h (by rw [ha, hb, e])
      simp [State.peek, hb, Memory.read_write_other _ _ this]
    all_goals simp [State.peek, hb, State.programByte]
  all_goals exact peek_congr b rfl rfl rfl rfl

/-- After a write, every address that shows the same RAM or save-storage cell reads the value written (R52, R58). -/
theorem peek_busWrite_same {a b : Word} (v : Byte) (s : State) (h : busTarget b = busTarget a)
    (hc : (∃ i, busTarget a = .ram i) ∨ ∃ i, busTarget a = .save i) : (busWrite a v s).peek b = v := by
  rcases hc with ⟨i, ha⟩ | ⟨i, ha⟩ <;> rw [ha] at h <;> simp [busWrite, State.peek, h, ha]

/-! ## Which cells an address shows -/

/-- RAM indexes are in range (R40, R52). -/
theorem busTarget_ram_lt {a : Word} {i : Nat} (h : busTarget a = .ram i) : i < ramSize := by
  unfold busTarget at h
  repeat' split at h
  all_goals cases h
  simp only [BitVec.toNat_and, ramSize]
  exact Nat.lt_of_le_of_lt Nat.and_le_right (by decide)

/-- Save-storage indexes are in range (R41, R58). -/
theorem busTarget_save_lt {a : Word} {i : Nat} (h : busTarget a = .save i) : i < sramSize := by
  unfold busTarget at h
  repeat' split at h
  all_goals cases h
  simp only [sramSize]
  bv_omega

/-- Audio-register indexes are in range, and none is 0x14 (R42, R54). -/
theorem busTarget_audio_lt {a : Word} {i : Nat} (h : busTarget a = .audio i) : i < apuSize ∧ i ≠ 0x14 := by
  unfold busTarget at h
  repeat' split at h
  all_goals cases h
  all_goals simp only [apuSize]
  · bv_omega
  · next h15 => subst h15; decide

/-- The zero page is RAM (R68). -/
theorem busTarget_zext16 (b : Byte) : busTarget (zext16 b) = .ram b.toNat := by
  have hb := b.isLt
  have h : zext16 b < 0x2000 := by bv_omega
  unfold busTarget
  rw [if_pos h]
  congr 1
  have : (zext16 b &&& 0x07FF) = zext16 b := by
    apply BitVec.eq_of_getLsbD_eq
    intro i hi
    simp only [BitVec.getLsbD_and, BitVec.getLsbD_setWidth]
    rcases Nat.lt_or_ge i 8 with h8 | h8
    · have : i = 0 ∨ i = 1 ∨ i = 2 ∨ i = 3 ∨ i = 4 ∨ i = 5 ∨ i = 6 ∨ i = 7 := by omega
      rcases this with rfl | rfl | rfl | rfl | rfl | rfl | rfl | rfl <;> simp
    · simp [BitVec.getLsbD_of_ge _ _ h8]
  rw [this]
  simp only [BitVec.toNat_setWidth]
  omega

/-- The stack page is RAM, at `0x100 + SP` (R26, R143). -/
theorem busTarget_stackAddr (sp : Byte) : busTarget (stackAddr sp) = .ram (0x100 + sp.toNat) := by
  have hadd : stackAddr sp = 0x0100 + zext16 sp := by
    unfold stackAddr
    rw [BitVec.add_eq_or_of_and_eq_zero]
    apply BitVec.eq_of_getLsbD_eq
    intro i hi
    simp only [BitVec.getLsbD_and, BitVec.getLsbD_setWidth]
    rcases Nat.lt_or_ge i 8 with h8 | h8
    · have : i = 0 ∨ i = 1 ∨ i = 2 ∨ i = 3 ∨ i = 4 ∨ i = 5 ∨ i = 6 ∨ i = 7 := by omega
      rcases this with rfl | rfl | rfl | rfl | rfl | rfl | rfl | rfl <;> simp
    · simp [BitVec.getLsbD_of_ge _ _ h8]
  have hsp := sp.isLt
  have h : stackAddr sp < 0x2000 := by rw [hadd]; bv_omega
  unfold busTarget
  rw [if_pos h, hadd]
  congr 1
  have hn : (0x0100 + zext16 sp : Word).toNat = 0x100 + sp.toNat := by bv_omega
  rw [BitVec.toNat_and, hn]
  change _ &&& (2 ^ 11 - 1) = _
  rw [Nat.and_two_pow_sub_one_eq_mod]
  omega

/-! ## The stack -/

/-- Push writes the stack cell and decrements SP, and nothing else (R143). -/
theorem push_eq (v : Byte) (s : State) :
    push v s = (s.setRam (Memory.write s.ram (0x100 + s.sp.toNat) v)).setSp (s.sp - 1) := by
  simp [push, busWrite_of_ram (busTarget_stackAddr s.sp)]

/-- Pull increments SP and reads the stack cell there, and nothing else (R143). -/
theorem pull_eq (s : State) :
    pull s = (Memory.read s.ram (0x100 + (s.sp + 1).toNat), s.setSp (s.sp + 1)) := by
  simp only [pull, State.setSp_sp, busRead_of_ram (busTarget_stackAddr (s.sp + 1)), State.setSp_ram]

/-- Push16 writes two stack cells, the high byte first (R144). -/
theorem push16_eq (w : Word) (s : State) :
    push16 w s = (s.setRam (Memory.write (Memory.write s.ram (0x100 + s.sp.toNat) (hi8 w))
      (0x100 + (s.sp - 1).toNat) (lo8 w))).setSp (s.sp - 1 - 1) := by
  simp [push16, push_eq, State.setRam, State.setSp]

/-- Pull16 reads two stack cells, the low byte first (R144). -/
theorem pull16_eq (s : State) :
    pull16 s = (wordOf (Memory.read s.ram (0x100 + (s.sp + 1 + 1).toNat)) (Memory.read s.ram (0x100 + (s.sp + 1).toNat)),
      s.setSp (s.sp + 1 + 1)) := by
  simp [pull16, pull_eq, State.setSp]

/-! ## 16-bit reads -/

/-- The bytes of the program image read without any event (R59). -/
theorem busRead_of_program {a : Word} (h : busTarget a = .program) (s : State) : busRead a s = (s.programByte a, s) := by
  simp [busRead, h]

/-- The vector of BRK is program storage (R68). -/
theorem read16_breakVector (s : State) :
    read16 breakVector s = (wordOf (s.programByte 0xFFFF) (s.programByte 0xFFFE), s) := by
  have h1 : busTarget breakVector = .program := by decide
  have h2 : busTarget (breakVector + 1) = .program := by decide
  simp only [read16, busRead_of_program h1, busRead_of_program h2]
  rfl

/-- Within page zero the pointer's high byte comes from `(p + 1) mod 256` (R137, R138). -/
theorem nextInPage_zext16 (b : Byte) : nextInPage (zext16 b) = zext16 (b + 1) := by
  revert b
  decide +kernel

/-- A pointer in page zero is two RAM cells, read without any event (R137, R138). -/
theorem read16PW_zext16 (b : Byte) (s : State) :
    read16PW (zext16 b) s = (wordOf (Memory.read s.ram (b + 1).toNat) (Memory.read s.ram b.toNat), s) := by
  simp only [read16PW, nextInPage_zext16, busRead_of_ram (busTarget_zext16 b), busRead_of_ram (busTarget_zext16 (b + 1))]

/-- The high byte's address in Read16PW: the page of `a` and its low byte plus 1 (R63). -/
theorem nextInPage_eq (a : Word) : nextInPage a = wordOf (hi8 a) (lo8 a + 1) := by
  rw [← lo8_add_one]
  unfold nextInPage
  generalize a + 1 = b
  apply BitVec.eq_of_getLsbD_eq
  intro i hi
  simp only [BitVec.getLsbD_or, BitVec.getLsbD_and, BitVec.getLsbD_append, BitVec.getLsbD_extractLsb']
  have : i = 0 ∨ i = 1 ∨ i = 2 ∨ i = 3 ∨ i = 4 ∨ i = 5 ∨ i = 6 ∨ i = 7 ∨ i = 8 ∨ i = 9 ∨ i = 10 ∨ i = 11 ∨ i = 12
      ∨ i = 13 ∨ i = 14 ∨ i = 15 := by omega
  rcases this with h | h | h | h | h | h | h | h | h | h | h | h | h | h | h | h <;> subst h <;> simp

/-! ## The ranges of the dispatch, on numbers -/

theorem busTarget_ram {a : Word} (h : a.toNat < 0x2000) : busTarget a = .ram (a.toNat % 0x800) := by
  unfold busTarget
  rw [if_pos (by bv_omega)]
  congr 1
  rw [BitVec.toNat_and]
  change _ &&& (2 ^ 11 - 1) = _
  rw [Nat.and_two_pow_sub_one_eq_mod]

theorem busTarget_pixel {a : Word} (h : 0x2000 ≤ a.toNat) (h2 : a.toNat < 0x4000) :
    busTarget a = .pixel (BitVec.ofNat 16 (0x2000 + a.toNat % 8)) := by
  unfold busTarget
  rw [if_neg (by bv_omega), if_pos (by bv_omega)]
  congr 1
  have e : a &&& 0x0007 = BitVec.ofNat 16 (a.toNat % 8) := by
    apply BitVec.eq_of_toNat_eq
    rw [BitVec.toNat_and]
    change _ &&& (2 ^ 3 - 1) = _
    rw [Nat.and_two_pow_sub_one_eq_mod]
    simp
    omega
  rw [e]
  have : a.toNat % 8 < 8 := Nat.mod_lt _ (by decide)
  generalize a.toNat % 8 = k at *
  interval_cases k <;> rfl

theorem busTarget_audio {a : Word} (h : 0x4000 ≤ a.toNat) (h2 : a.toNat < 0x4014 ∨ a.toNat = 0x4015) :
    busTarget a = .audio (a.toNat - 0x4000) := by
  unfold busTarget
  rw [if_neg (by bv_omega), if_neg (by bv_omega)]
  rcases h2 with h2 | h2
  · rw [if_pos (by bv_omega), BitVec.toNat_sub_of_le (by bv_omega)]
    rfl
  · have e : a = 0x4015 := by bv_omega
    subst e
    decide

theorem busTarget_dma {a : Word} (h : a.toNat = 0x4014) : busTarget a = .dma := by
  have : a = 0x4014 := by bv_omega
  subst this
  decide

theorem busTarget_input {a : Word} (h : 0x4016 ≤ a.toNat) (h2 : a.toNat < 0x4018) : busTarget a = .input := by
  unfold busTarget
  rw [if_neg (by bv_omega), if_neg (by bv_omega), if_neg (by bv_omega), if_neg (by bv_omega), if_neg (by bv_omega),
    if_pos (by bv_omega)]

theorem busTarget_unmapped {a : Word} (h : 0x4018 ≤ a.toNat) (h2 : a.toNat < 0x6000) : busTarget a = .unmapped := by
  unfold busTarget
  rw [if_neg (by bv_omega), if_neg (by bv_omega), if_neg (by bv_omega), if_neg (by bv_omega), if_neg (by bv_omega),
    if_neg (by bv_omega), if_pos (by bv_omega)]

theorem busTarget_save {a : Word} (h : 0x6000 ≤ a.toNat) (h2 : a.toNat < 0x8000) :
    busTarget a = .save (a.toNat - 0x6000) := by
  unfold busTarget
  rw [if_neg (by bv_omega), if_neg (by bv_omega), if_neg (by bv_omega), if_neg (by bv_omega), if_neg (by bv_omega),
    if_neg (by bv_omega), if_neg (by bv_omega), if_pos (by bv_omega), BitVec.toNat_sub_of_le (by bv_omega)]
  rfl

theorem busTarget_program {a : Word} (h : 0x8000 ≤ a.toNat) : busTarget a = .program := by
  unfold busTarget
  rw [if_neg (by bv_omega), if_neg (by bv_omega), if_neg (by bv_omega), if_neg (by bv_omega), if_neg (by bv_omega),
    if_neg (by bv_omega), if_neg (by bv_omega), if_neg (by bv_omega)]

/-! ## What an access depends on -/

/-- The byte that a read answers depends only on RAM, save storage, the image, the configuration and the draw counter. -/
theorem busRead_congr {s t : State} (a : Word) (hr : t.ram = s.ram) (hs : t.sram = s.sram) (hp : t.prg = s.prg)
    (hc : t.cfg = s.cfg) (hd : t.drawIndex = s.drawIndex) : (busRead a t).1 = (busRead a s).1 := by
  unfold busRead
  cases busTarget a <;> simp [deviceRead, State.programByte, hr, hs, hp, hc, hd]

end Sys2Proof.Machine
end

