-- ==== Sys2Proof/Laws/Driver.lean ====
section
/-!
SUPPORT. What the host's side can do to a core between its steps: one byte of a peripheral, and the override of PC. And where
a conformance launch halts.
-/

namespace Sys2Proof.Machine

/-- A byte that a peripheral writes changes at most RAM, save storage and the audio bank, and of them only the cell of an
allowed address (R72). -/
theorem periphWrite_frame (allowed : List Word) (s : State) (w : Word × Byte) :
    let t := periphWrite allowed s w
    t = { s with ram := t.ram, sram := t.sram, apu := t.apu } ∧
      (∀ b, (∀ a ∈ allowed, sameCell a b = false) → t.peek b = s.peek b) ∧
      ∀ k, (∀ a ∈ allowed, busTarget a ≠ .audio k) → Memory.read t.apu k = Memory.read s.apu k := by
  by_cases h : w.1 ∈ allowed
  · simp only [periphWrite, h, if_true]
    cases ht : busTarget w.1 with
    | ram i | save i =>
      refine ⟨rfl, fun b hb => ?_, fun _ _ => rfl⟩
      have hne : busTarget b ≠ busTarget w.1 := fun e => by simpa [sameCell, ht, e] using hb _ h
      simpa [busWrite, ht] using peek_busWrite_other w.2 s hne
    | audio i =>
      refine ⟨rfl, fun b _ => peek_congr b rfl rfl rfl rfl, fun k hk => ?_⟩
      exact Memory.read_write_other _ _ fun e => hk _ h (e ▸ ht)
    | pixel _ | dma | input | unmapped | program => exact ⟨rfl, fun _ _ => rfl, fun _ _ => rfl⟩
  · simp [periphWrite, h]

/-- The host may override PC at a launch: no step has run (R352, R374). -/
theorem overridePc_launch (pc : Word) (l : Launch) : overridePc pc (State.launch l) = some ((State.launch l).setPc pc) := rfl

/-- Once CYC has left its reset value, the host may not override PC (R352). -/
theorem overridePc_stepped (pc : Word) {s : State} (h : s.cyc ≠ cycReset) : overridePc pc s = none := by
  simp [overridePc, State.unstepped, h]

/-- A core that has halted runs no further. -/
theorem runToHalt_halted (n : Nat) {s : State} (h : s.run = .halted) : runToHalt n s = some s := by
  cases n <;> simp [runToHalt, h]

/-- A core that takes a step runs on from where the step leads. -/
theorem runToHalt_next (n : Nat) {s t : State} (h : step s = .next t) : runToHalt (n + 1) s = runToHalt n t := by
  have hr : s.run ≠ .halted := fun hr => by simp [step, hr] at h
  simp [runToHalt, hr, h]

/-- A passing end state's result code is 0x0000 (R375). -/
theorem resultCode_of_passed {s : State} (h : conformancePassed s = true) : resultCode s = 0x0000 := by
  simp only [conformancePassed, Bool.and_eq_true, beq_iff_eq] at h
  rw [resultCode, h.2, h.1.2]
  decide

/-- The harness that writes the two bytes above the launch stack returns to its own address (R375). -/
theorem returnAtLaunch_haltingAt (w : Word) (l : Launch) : returnAtLaunch (l.haltingAt w) = w := by
  have h1 : (State.launch (l.haltingAt w)).peek 0x01FF = hi8 (w - 1) := Memory.read_write_same _ _ _
  have h2 : (State.launch (l.haltingAt w)).peek 0x01FE = lo8 (w - 1) :=
    (Memory.read_write_other _ _ (by decide)).trans (Memory.read_write_same _ _ _)
  rw [returnAtLaunch, h1, h2, wordOf_hi8_lo8, BitVec.sub_add_cancel]

/-- And its launch stays valid (D36). -/
theorem Launch.valid_haltingAt (w : Word) {l : Launch} (h : l.valid = true) : (l.haltingAt w).valid = true := by
  simp only [Launch.valid, Config.valid, Launch.haltingAt, Bool.and_eq_true] at h ⊢
  obtain ⟨⟨⟨⟨hc, hr⟩, ha⟩, hs⟩, hp⟩ := h
  exact ⟨⟨⟨⟨hc, Memory.wf_write _ (by decide) (Memory.wf_write _ (by decide) hr)⟩, ha⟩, hs⟩, hp⟩

end Sys2Proof.Machine
end

