-- ==== Sys2Proof/Laws/Flags.lean ====
section
/-!
SUPPORT. What each flag computation says of each flag. Every one is a statement about bytes.
-/

namespace Sys2Proof.Machine

/-- Writing a flag writes that flag and keeps the others (R29). -/
theorem getFlag_setFlag (p : Byte) (f g : Flag) (on : Bool) :
    getFlag (setFlag p f on) g = if f = g then on else getFlag p g := by
  cases f <;> cases g <;> cases on <;> simp [getFlag, setFlag, Flag.bit]

@[simp] theorem getFlag_setFlag_same (p : Byte) (f : Flag) (on : Bool) : getFlag (setFlag p f on) f = on := by
  simp [getFlag_setFlag]

theorem getFlag_setFlag_other (p : Byte) {f g : Flag} (on : Bool) (h : f ≠ g) :
    getFlag (setFlag p f on) g = getFlag p g := by
  simp [getFlag_setFlag, h]

/-- Two status bytes with the same eight flags are the same byte (R27). -/
theorem flags_ext {p q : Byte} (h : ∀ f, getFlag p f = getFlag q f) : p = q := by
  apply BitVec.eq_of_getLsbD_eq
  intro i hi
  have h0 := h .c
  have h1 := h .z
  have h2 := h .i
  have h3 := h .d
  have h4 := h .b
  have h5 := h .u
  have h6 := h .v
  have h7 := h .n
  simp only [getFlag, Flag.bit] at h0 h1 h2 h3 h4 h5 h6 h7
  rcases i with _ | _ | _ | _ | _ | _ | _ | _ | i
  all_goals first | assumption | omega

theorem getFlag_setNZ (v p : Byte) (f : Flag) :
    getFlag (setNZ v p) f = if f = .n then v.getLsbD 7 else if f = .z then v == 0 else getFlag p f := by
  unfold setNZ
  rw [getFlag_setFlag, getFlag_setFlag]
  cases f <;> simp

@[simp] theorem setNZ_z (v p : Byte) : getFlag (setNZ v p) .z = (v == 0) := by simp [getFlag_setNZ]
@[simp] theorem setNZ_n (v p : Byte) : getFlag (setNZ v p) .n = v.getLsbD 7 := by simp [getFlag_setNZ]

theorem getFlag_compareFlags (reg m p : Byte) (f : Flag) :
    getFlag (compareFlags reg m p) f =
      if f = .n then (reg - m).getLsbD 7 else if f = .z then (reg - m == 0)
      else if f = .c then decide (m ≤ reg) else getFlag p f := by
  unfold compareFlags
  rw [getFlag_setNZ, getFlag_setFlag]
  cases f <;> simp

theorem getFlag_pushedStatus (p : Byte) (f : Flag) :
    getFlag (pushedStatus p) f = if f = .b ∨ f = .u then true else getFlag p f := by
  cases f <;> simp [getFlag, pushedStatus, Flag.bit]

theorem getFlag_pulledStatus (v : Byte) (f : Flag) :
    getFlag (pulledStatus v) f = if f = .b then false else if f = .u then true else getFlag v f := by
  cases f <;> simp [getFlag, pulledStatus, Flag.bit]

theorem getFlag_resetStatus (c z d b v n : Bool) (f : Flag) :
    getFlag (resetStatus c z d b v n) f =
      match f with
      | .c => c | .z => z | .i => true | .d => d | .b => b | .u => true | .v => v | .n => n := by
  cases f <;> simp [resetStatus, getFlag_setFlag] <;> decide

@[simp] theorem addCore_result (a m : Byte) (c : Bool) :
    (addCore a m c).result = BitVec.ofNat 8 (a.toNat + m.toNat + c.toNat) := rfl
@[simp] theorem addCore_carry (a m : Byte) (c : Bool) :
    (addCore a m c).carry = decide (255 < a.toNat + m.toNat + c.toNat) := rfl

end Sys2Proof.Machine
end

