-- ==== Sys2Proof/Laws/Exec.lean ====
section
/-!
SUPPORT. What running one instruction can do: the addressing modes' reads, Operand and WriteBack, the phases before and
after the execute phase, and that exec is runInstr over the action of the mnemonic. Proofs cite these and do not unfold.
-/

namespace Sys2Proof.Machine

/-! ## exec in one equation -/

/-- The action of an instruction: its mnemonic's (41_ to 45_ files), and the diagnostic of an undefined opcode value. -/
def actionOf (i : Instr) (pc0 : Word) : Action :=
  match i.mnemonic with
  | .adc => addCarry
  | .and => andA
  | .asl => shiftLeft
  | .bcc => branchOn .c false
  | .bcs => branchOn .c true
  | .beq => branchOn .z true
  | .bit => bitTest
  | .bmi => branchOn .n true
  | .bne => branchOn .z false
  | .bpl => branchOn .n false
  | .brk => break_
  | .bvc => branchOn .v false
  | .bvs => branchOn .v true
  | .clc => flagTo .c false
  | .cld => flagTo .d false
  | .cli => flagTo .i false
  | .clv => flagTo .v false
  | .cmp => compareA
  | .cpx => compareX
  | .cpy => compareY
  | .dcp => decCompare
  | .dec => decMem
  | .dex => decX
  | .dey => decY
  | .eor => eorA
  | .inc => incMem
  | .inx => incX
  | .iny => incY
  | .isb => incSub
  | .jmp => jump
  | .jsr => callSubroutine
  | .lax => loadAX
  | .lda => loadA
  | .ldx => loadX
  | .ldy => loadY
  | .lsr => shiftRight
  | .nop => noOperation
  | .ora => orA
  | .pha => pushA
  | .php => pushP
  | .pla => pullA
  | .plp => pullP
  | .rla => rotateLeftAnd
  | .rol => rotateLeft
  | .ror => rotateRight
  | .rra => rotateRightAdd
  | .rti => returnInterrupt
  | .rts => returnSubroutine
  | .sax => storeAX
  | .sbc => subCarry
  | .sec => flagTo .c true
  | .sed => flagTo .d true
  | .sei => flagTo .i true
  | .slo => shiftLeftOr
  | .sre => shiftRightEor
  | .sta => storeA
  | .stx => storeX
  | .sty => storeY
  | .tax => transferAX
  | .tay => transferAY
  | .tsx => transferSX
  | .txa => transferXA
  | .txs => transferXS
  | .tya => transferYA
  | .undefined => undefinedOpcode i.opcode pc0

/-- Every instruction always completes, and its next state is that of its mnemonic's action (R39, R120). -/
theorem exec_eq (i : Instr) (s : State) : exec i s = .next (afterExecute i (actionOf i s.pc) s) := by
  cases i <;> rfl

/-! ## Resolution -/

/-- All that resolution can do to the state: nothing, or, for JMP's indirect mode, two reads (R127–R139). -/
theorem resolve_state (m : AddrMode) (s : State) :
    (resolve m s).state = s ∨ ∃ w, m = .indirect w ∧ (resolve m s).state = (read16PW w s).2 := by
  cases m
  case indirect w => exact Or.inr ⟨w, rfl, rfl⟩
  case indexedIndirect b => exact Or.inl (by simp only [resolve, read16PW_zext16])
  case indirectIndexed b => exact Or.inl (by simp only [resolve, read16PW_zext16])
  all_goals exact Or.inl rfl

@[simp] theorem resolve_a (m : AddrMode) (s : State) : (resolve m s).state.a = s.a := by
  rcases resolve_state m s with h | ⟨_, _, h⟩ <;> simp [h, read16PW]
@[simp] theorem resolve_x (m : AddrMode) (s : State) : (resolve m s).state.x = s.x := by
  rcases resolve_state m s with h | ⟨_, _, h⟩ <;> simp [h, read16PW]
@[simp] theorem resolve_y (m : AddrMode) (s : State) : (resolve m s).state.y = s.y := by
  rcases resolve_state m s with h | ⟨_, _, h⟩ <;> simp [h, read16PW]
@[simp] theorem resolve_sp (m : AddrMode) (s : State) : (resolve m s).state.sp = s.sp := by
  rcases resolve_state m s with h | ⟨_, _, h⟩ <;> simp [h, read16PW]
@[simp] theorem resolve_p (m : AddrMode) (s : State) : (resolve m s).state.p = s.p := by
  rcases resolve_state m s with h | ⟨_, _, h⟩ <;> simp [h, read16PW]
@[simp] theorem resolve_pc (m : AddrMode) (s : State) : (resolve m s).state.pc = s.pc := by
  rcases resolve_state m s with h | ⟨_, _, h⟩ <;> simp [h, read16PW]
@[simp] theorem resolve_cyc (m : AddrMode) (s : State) : (resolve m s).state.cyc = s.cyc := by
  rcases resolve_state m s with h | ⟨_, _, h⟩ <;> simp [h, read16PW]
@[simp] theorem resolve_ram (m : AddrMode) (s : State) : (resolve m s).state.ram = s.ram := by
  rcases resolve_state m s with h | ⟨_, _, h⟩ <;> simp [h, read16PW]
@[simp] theorem resolve_sram (m : AddrMode) (s : State) : (resolve m s).state.sram = s.sram := by
  rcases resolve_state m s with h | ⟨_, _, h⟩ <;> simp [h, read16PW]
@[simp] theorem resolve_apu (m : AddrMode) (s : State) : (resolve m s).state.apu = s.apu := by
  rcases resolve_state m s with h | ⟨_, _, h⟩ <;> simp [h, read16PW]
@[simp] theorem resolve_diag (m : AddrMode) (s : State) : (resolve m s).state.diag = s.diag := by
  rcases resolve_state m s with h | ⟨_, _, h⟩ <;> simp [h, read16PW]
@[simp] theorem resolve_run (m : AddrMode) (s : State) : (resolve m s).state.run = s.run := by
  rcases resolve_state m s with h | ⟨_, _, h⟩ <;> simp [h, read16PW]
@[simp] theorem resolve_prg (m : AddrMode) (s : State) : (resolve m s).state.prg = s.prg := by
  rcases resolve_state m s with h | ⟨_, _, h⟩ <;> simp [h, read16PW]
@[simp] theorem resolve_cfg (m : AddrMode) (s : State) : (resolve m s).state.cfg = s.cfg := by
  rcases resolve_state m s with h | ⟨_, _, h⟩ <;> simp [h, read16PW]

/-! ## Operand and WriteBack -/

@[simp] theorem operand_a (ea : EA) (s : State) : (operand ea s).2.a = s.a := by
  cases ea <;> simp [operand]
@[simp] theorem operand_x (ea : EA) (s : State) : (operand ea s).2.x = s.x := by
  cases ea <;> simp [operand]
@[simp] theorem operand_y (ea : EA) (s : State) : (operand ea s).2.y = s.y := by
  cases ea <;> simp [operand]
@[simp] theorem operand_sp (ea : EA) (s : State) : (operand ea s).2.sp = s.sp := by
  cases ea <;> simp [operand]
@[simp] theorem operand_p (ea : EA) (s : State) : (operand ea s).2.p = s.p := by
  cases ea <;> simp [operand]
@[simp] theorem operand_pc (ea : EA) (s : State) : (operand ea s).2.pc = s.pc := by
  cases ea <;> simp [operand]
@[simp] theorem operand_cyc (ea : EA) (s : State) : (operand ea s).2.cyc = s.cyc := by
  cases ea <;> simp [operand]
@[simp] theorem operand_ram (ea : EA) (s : State) : (operand ea s).2.ram = s.ram := by
  cases ea <;> simp [operand]
@[simp] theorem operand_sram (ea : EA) (s : State) : (operand ea s).2.sram = s.sram := by
  cases ea <;> simp [operand]
@[simp] theorem operand_apu (ea : EA) (s : State) : (operand ea s).2.apu = s.apu := by
  cases ea <;> simp [operand]
@[simp] theorem operand_diag (ea : EA) (s : State) : (operand ea s).2.diag = s.diag := by
  cases ea <;> simp [operand]
@[simp] theorem operand_run (ea : EA) (s : State) : (operand ea s).2.run = s.run := by
  cases ea <;> simp [operand]
@[simp] theorem operand_prg (ea : EA) (s : State) : (operand ea s).2.prg = s.prg := by
  cases ea <;> simp [operand]
@[simp] theorem operand_cfg (ea : EA) (s : State) : (operand ea s).2.cfg = s.cfg := by
  cases ea <;> simp [operand]

@[simp] theorem writeBack_x (ea : EA) (v : Byte) (s : State) : (writeBack ea v s).x = s.x := by
  cases ea <;> simp [writeBack]
@[simp] theorem writeBack_y (ea : EA) (v : Byte) (s : State) : (writeBack ea v s).y = s.y := by
  cases ea <;> simp [writeBack]
@[simp] theorem writeBack_sp (ea : EA) (v : Byte) (s : State) : (writeBack ea v s).sp = s.sp := by
  cases ea <;> simp [writeBack]
@[simp] theorem writeBack_p (ea : EA) (v : Byte) (s : State) : (writeBack ea v s).p = s.p := by
  cases ea <;> simp [writeBack]
@[simp] theorem writeBack_pc (ea : EA) (v : Byte) (s : State) : (writeBack ea v s).pc = s.pc := by
  cases ea <;> simp [writeBack]
@[simp] theorem writeBack_cyc (ea : EA) (v : Byte) (s : State) : (writeBack ea v s).cyc = s.cyc := by
  cases ea <;> simp [writeBack]
@[simp] theorem writeBack_diag (ea : EA) (v : Byte) (s : State) : (writeBack ea v s).diag = s.diag := by
  cases ea <;> simp [writeBack]
@[simp] theorem writeBack_run (ea : EA) (v : Byte) (s : State) : (writeBack ea v s).run = s.run := by
  cases ea <;> simp [writeBack]
@[simp] theorem writeBack_prg (ea : EA) (v : Byte) (s : State) : (writeBack ea v s).prg = s.prg := by
  cases ea <;> simp [writeBack]
@[simp] theorem writeBack_cfg (ea : EA) (v : Byte) (s : State) : (writeBack ea v s).cfg = s.cfg := by
  cases ea <;> simp [writeBack]
@[simp] theorem writeBack_drawIndex (ea : EA) (v : Byte) (s : State) : (writeBack ea v s).drawIndex = s.drawIndex := by
  cases ea <;> simp [writeBack]

/-- WriteBack to memory leaves A alone; the accumulator form writes it (R141). -/
theorem writeBack_a (ea : EA) (v : Byte) (s : State) : (writeBack ea v s).a = if ea = .acc then v else s.a := by
  cases ea <;> simp [writeBack]

/-! ## The phases around the execute phase -/

@[simp] theorem beforeExecute_a (i : Instr) (s : State) : (beforeExecute i s).a = s.a := by
  simp [beforeExecute]
@[simp] theorem beforeExecute_x (i : Instr) (s : State) : (beforeExecute i s).x = s.x := by
  simp [beforeExecute]
@[simp] theorem beforeExecute_y (i : Instr) (s : State) : (beforeExecute i s).y = s.y := by
  simp [beforeExecute]
@[simp] theorem beforeExecute_sp (i : Instr) (s : State) : (beforeExecute i s).sp = s.sp := by
  simp [beforeExecute]
@[simp] theorem beforeExecute_p (i : Instr) (s : State) : (beforeExecute i s).p = s.p := by
  simp [beforeExecute]
@[simp] theorem beforeExecute_pc (i : Instr) (s : State) : (beforeExecute i s).pc = s.pc + BitVec.ofNat 16 (instrLen s.cfg i) := by
  simp [beforeExecute]
@[simp] theorem beforeExecute_cyc (i : Instr) (s : State) : (beforeExecute i s).cyc = s.cyc + accounted s.cfg i (resolve i.addrMode s).crossed := by
  simp [beforeExecute]
@[simp] theorem beforeExecute_ram (i : Instr) (s : State) : (beforeExecute i s).ram = s.ram := by
  simp [beforeExecute]
@[simp] theorem beforeExecute_sram (i : Instr) (s : State) : (beforeExecute i s).sram = s.sram := by
  simp [beforeExecute]
@[simp] theorem beforeExecute_apu (i : Instr) (s : State) : (beforeExecute i s).apu = s.apu := by
  simp [beforeExecute]
@[simp] theorem beforeExecute_diag (i : Instr) (s : State) : (beforeExecute i s).diag = s.diag := by
  simp [beforeExecute]
@[simp] theorem beforeExecute_run (i : Instr) (s : State) : (beforeExecute i s).run = s.run := by
  simp [beforeExecute]
@[simp] theorem beforeExecute_prg (i : Instr) (s : State) : (beforeExecute i s).prg = s.prg := by
  simp [beforeExecute]
@[simp] theorem beforeExecute_cfg (i : Instr) (s : State) : (beforeExecute i s).cfg = s.cfg := by
  simp [beforeExecute]
@[simp] theorem beforeExecute_events (i : Instr) (s : State) : (beforeExecute i s).events = (resolve i.addrMode s).state.events := by
  simp [beforeExecute]
@[simp] theorem beforeExecute_drawIndex (i : Instr) (s : State) : (beforeExecute i s).drawIndex = (resolve i.addrMode s).state.drawIndex := by
  simp [beforeExecute]

@[simp] theorem haltCheck_a (i : Instr) (s : State) : (haltCheck i s).a = s.a := by
  unfold haltCheck; split <;> rfl
@[simp] theorem haltCheck_x (i : Instr) (s : State) : (haltCheck i s).x = s.x := by
  unfold haltCheck; split <;> rfl
@[simp] theorem haltCheck_y (i : Instr) (s : State) : (haltCheck i s).y = s.y := by
  unfold haltCheck; split <;> rfl
@[simp] theorem haltCheck_sp (i : Instr) (s : State) : (haltCheck i s).sp = s.sp := by
  unfold haltCheck; split <;> rfl
@[simp] theorem haltCheck_p (i : Instr) (s : State) : (haltCheck i s).p = s.p := by
  unfold haltCheck; split <;> rfl
@[simp] theorem haltCheck_pc (i : Instr) (s : State) : (haltCheck i s).pc = s.pc := by
  unfold haltCheck; split <;> rfl
@[simp] theorem haltCheck_cyc (i : Instr) (s : State) : (haltCheck i s).cyc = s.cyc := by
  unfold haltCheck; split <;> rfl
@[simp] theorem haltCheck_ram (i : Instr) (s : State) : (haltCheck i s).ram = s.ram := by
  unfold haltCheck; split <;> rfl
@[simp] theorem haltCheck_sram (i : Instr) (s : State) : (haltCheck i s).sram = s.sram := by
  unfold haltCheck; split <;> rfl
@[simp] theorem haltCheck_apu (i : Instr) (s : State) : (haltCheck i s).apu = s.apu := by
  unfold haltCheck; split <;> rfl
@[simp] theorem haltCheck_diag (i : Instr) (s : State) : (haltCheck i s).diag = s.diag := by
  unfold haltCheck; split <;> rfl
@[simp] theorem haltCheck_events (i : Instr) (s : State) : (haltCheck i s).events = s.events := by
  unfold haltCheck; split <;> rfl
@[simp] theorem haltCheck_prg (i : Instr) (s : State) : (haltCheck i s).prg = s.prg := by
  unfold haltCheck; split <;> rfl
@[simp] theorem haltCheck_cfg (i : Instr) (s : State) : (haltCheck i s).cfg = s.cfg := by
  unfold haltCheck; split <;> rfl
@[simp] theorem haltCheck_drawIndex (i : Instr) (s : State) : (haltCheck i s).drawIndex = s.drawIndex := by
  unfold haltCheck; split <;> rfl

/-- Only RTS can halt (R333). -/
theorem haltCheck_of_ne {i : Instr} (h : i.opcode ≠ 0x60) (s : State) : haltCheck i s = s := by
  exact if_neg fun hc => h hc.1

/-- RTS halts exactly when the new PC is the sentinel (R333). -/
theorem haltCheck_run (i : Instr) (s : State) :
    (haltCheck i s).run = if i.opcode = 0x60 ∧ s.cfg.sentinel = some s.pc then .halted else s.run := by
  unfold haltCheck
  split <;> rfl

/-- RTS is the one instruction whose opcode is 0x60 (R99). -/
theorem opcode_eq_rts {i : Instr} : i.opcode = 0x60 ↔ i = .rts := by
  constructor
  · cases i <;> first | exact fun _ => rfl | exact fun h => absurd h (by simp [Instr.opcode, Instr.desc])
  · rintro rfl
    rfl

/-- The byte that Operand answers depends on A, on what a bus read depends on, and on nothing else. -/
theorem operand_congr {s t : State} (ea : EA) (ha : t.a = s.a) (hr : t.ram = s.ram) (hs : t.sram = s.sram)
    (hp : t.prg = s.prg) (hc : t.cfg = s.cfg) (hd : t.drawIndex = s.drawIndex) :
    (operand ea t).1 = (operand ea s).1 := by
  cases ea
  case mem a => exact busRead_congr a hr hs hp hc hd
  all_goals simp [operand, ha]

/-- Advancing and accounting do not change what Operand answers (R123, R124). -/
theorem operand_beforeExecute (i : Instr) (ea : EA) (s : State) :
    (operand ea (beforeExecute i s)).1 = (operand ea (resolve i.addrMode s).state).1 := by
  apply operand_congr <;> simp

/-- Every instruction but RTS completes with its action's state and cycles (R120, R333). -/
theorem exec_eq_of_ne_rts {i : Instr} (h : i ≠ .rts) (s : State) :
    exec i s = .next (((actionOf i s.pc) (resolve i.addrMode s).ea (beforeExecute i s)).2.addCyc
      ((actionOf i s.pc) (resolve i.addrMode s).ea (beforeExecute i s)).1) := by
  rw [exec_eq, afterExecute, haltCheck_of_ne fun e => h (opcode_eq_rts.mp e)]

/-! ## What an action can do -/

/-- A branch leaves the state alone or writes PC (R247). -/
theorem branchOn_state (f : Flag) (on : Bool) (ea : EA) (s : State) :
    (branchOn f on ea s).2 = s ∨ ∃ w, (branchOn f on ea s).2 = s.setPc w := by
  unfold branchOn branch
  cases ea
  case mem a =>
    dsimp only
    split
    · exact Or.inr ⟨_, rfl⟩
    · exact Or.inl rfl
  all_goals exact Or.inl rfl

/-- A jump leaves the state alone or writes PC (R242). -/
theorem jumpTo_state (ea : EA) (s : State) : jumpTo ea s = s ∨ ∃ w, jumpTo ea s = s.setPc w := by
  cases ea
  case mem a => exact Or.inr ⟨a, rfl⟩
  case imm a _ => exact Or.inr ⟨a, rfl⟩
  all_goals exact Or.inl rfl

/-- The updates that actions are made of: a property that every one of them keeps is kept by every action. No action writes
the unused flag alone, and only an undefined opcode value's writes DIAG. -/
structure Kept (P : State → Prop) (diagAllowed : Prop) : Prop where
  setA : ∀ s v, P s → P (s.setA v)
  setX : ∀ s v, P s → P (s.setX v)
  setY : ∀ s v, P s → P (s.setY v)
  setSp : ∀ s v, P s → P (s.setSp v)
  setPc : ∀ s w, P s → P (s.setPc w)
  setFlag : ∀ s f on, f ≠ Flag.u → P s → P (s.setFlag f on)
  setNZ : ∀ s v, P s → P (s.setNZ v)
  compare : ∀ s reg m, P s → P (s.compare reg m)
  pulled : ∀ s v, P s → P (s.setP (pulledStatus v))
  busRead : ∀ s a, P s → P (Machine.busRead a s).2
  busWrite : ∀ s a v, P s → P (Machine.busWrite a v s)
  addDiag : ∀ s d, diagAllowed → P s → P (s.addDiag d)

namespace Kept

variable {P : State → Prop} {D : Prop} (k : Kept P D) {s : State} (hs : P s)
include k hs

theorem operand (ea : EA) : P (Machine.operand ea s).2 := by
  cases ea
  case mem a => exact k.busRead _ a hs
  all_goals exact hs

theorem writeBack (ea : EA) (v : Byte) : P (Machine.writeBack ea v s) := by
  cases ea
  case none => exact hs
  case acc => exact k.setA _ v hs
  case imm a _ => exact k.busWrite _ a v hs
  case mem a => exact k.busWrite _ a v hs

theorem addToA (m : Byte) : P (s.addToA m) :=
  k.setNZ _ _ (k.setFlag _ _ _ (by decide) (k.setFlag _ _ _ (by decide) (k.setA _ _ hs)))

theorem resultA (v : Byte) : P (s.resultA v) := k.setNZ _ _ (k.setA _ _ hs)

theorem shiftFlags (r : Byte) (c : Bool) : P (s.shiftFlags r c) := k.setNZ _ _ (k.setFlag _ _ _ (by decide) hs)

theorem push (v : Byte) : P (Machine.push v s) := k.setSp _ _ (k.busWrite _ _ _ hs)

theorem pull : P (Machine.pull s).2 := k.busRead _ _ (k.setSp _ _ hs)

theorem pull16 : P (Machine.pull16 s).2 := k.pull (k.pull hs)

theorem pullStatus : P (Machine.pullStatus s) := k.pulled _ _ (k.pull hs)

theorem jumpTo (ea : EA) : P (Machine.jumpTo ea s) := by
  rcases jumpTo_state ea s with e | ⟨w, e⟩ <;> rw [e]
  · exact hs
  · exact k.setPc _ w hs

theorem branchOn (f : Flag) (on : Bool) (ea : EA) : P (Machine.branchOn f on ea s).2 := by
  rcases branchOn_state f on ea s with e | ⟨w, e⟩ <;> rw [e]
  · exact hs
  · exact k.setPc _ w hs

theorem resolve (m : AddrMode) : P (Machine.resolve m s).state := by
  rcases resolve_state m s with e | ⟨w, _, e⟩ <;> rw [e]
  · exact hs
  · exact k.busRead _ _ (k.busRead _ _ hs)

end Kept

/-- Every action keeps what its updates keep. -/
theorem actionOf_keeps {P : State → Prop} (i : Instr) (k : Kept P (i.mnemonic = .undefined)) (pc0 : Word) (ea : EA)
    {s : State} (hs : P s) : P (actionOf i pc0 ea s).2 := by
  unfold actionOf
  cases hm : i.mnemonic
  case adc => exact k.addToA (k.operand hs _) _
  case and => exact k.resultA (k.operand hs _) _
  case asl => exact k.shiftFlags (k.writeBack (k.operand hs _) _ _) _ _
  case bcc => exact k.branchOn hs _ _ _
  case bcs => exact k.branchOn hs _ _ _
  case beq => exact k.branchOn hs _ _ _
  case bit => exact k.setFlag _ _ _ (by decide) (k.setFlag _ _ _ (by decide) (k.setFlag _ _ _ (by decide) (k.operand hs _)))
  case bmi => exact k.branchOn hs _ _ _
  case bne => exact k.branchOn hs _ _ _
  case bpl => exact k.branchOn hs _ _ _
  case brk => exact k.setPc _ _ (k.busRead _ _ (k.busRead _ _ (k.setFlag _ _ _ (by decide) (k.push (k.push (k.push hs _) _) _))))
  case bvc => exact k.branchOn hs _ _ _
  case bvs => exact k.branchOn hs _ _ _
  case clc => exact k.setFlag _ _ _ (by decide) hs
  case cld => exact k.setFlag _ _ _ (by decide) hs
  case cli => exact k.setFlag _ _ _ (by decide) hs
  case clv => exact k.setFlag _ _ _ (by decide) hs
  case cmp => exact k.compare _ _ _ (k.operand hs _)
  case cpx => exact k.compare _ _ _ (k.operand hs _)
  case cpy => exact k.compare _ _ _ (k.operand hs _)
  case dcp => exact k.compare _ _ _ (k.writeBack (k.operand hs _) _ _)
  case dec => exact k.setNZ _ _ (k.writeBack (k.operand hs _) _ _)
  case dex => exact k.setNZ _ _ (k.setX _ _ hs)
  case dey => exact k.setNZ _ _ (k.setY _ _ hs)
  case eor => exact k.resultA (k.operand hs _) _
  case inc => exact k.setNZ _ _ (k.writeBack (k.operand hs _) _ _)
  case inx => exact k.setNZ _ _ (k.setX _ _ hs)
  case iny => exact k.setNZ _ _ (k.setY _ _ hs)
  case isb => exact k.addToA (k.writeBack (k.operand hs _) _ _) _
  case jmp => exact k.jumpTo hs _
  case jsr => exact k.jumpTo (k.push (k.push hs _) _) _
  case lax => exact k.setNZ _ _ (k.setX _ _ (k.setA _ _ (k.operand hs _)))
  case lda => exact k.setNZ _ _ (k.setA _ _ (k.operand hs _))
  case ldx => exact k.setNZ _ _ (k.setX _ _ (k.operand hs _))
  case ldy => exact k.setNZ _ _ (k.setY _ _ (k.operand hs _))
  case lsr => exact k.shiftFlags (k.writeBack (k.operand hs _) _ _) _ _
  case nop => exact hs
  case ora => exact k.resultA (k.operand hs _) _
  case pha => exact k.push hs _
  case php => exact k.push hs _
  case pla => exact k.setNZ _ _ (k.setA _ _ (k.pull hs))
  case plp => exact k.pullStatus hs
  case rla => exact k.resultA (k.setFlag _ _ _ (by decide) (k.writeBack (k.operand hs _) _ _)) _
  case rol => exact k.shiftFlags (k.writeBack (k.operand hs _) _ _) _ _
  case ror => exact k.shiftFlags (k.writeBack (k.operand hs _) _ _) _ _
  case rra => exact k.addToA (k.setFlag _ _ _ (by decide) (k.writeBack (k.operand hs _) _ _)) _
  case rti => exact k.setPc _ _ (k.pull16 (k.pullStatus hs))
  case rts => exact k.setPc _ _ (k.pull16 hs)
  case sax => exact k.writeBack hs _ _
  case sbc => exact k.addToA (k.operand hs _) _
  case sec => exact k.setFlag _ _ _ (by decide) hs
  case sed => exact k.setFlag _ _ _ (by decide) hs
  case sei => exact k.setFlag _ _ _ (by decide) hs
  case slo => exact k.resultA (k.setFlag _ _ _ (by decide) (k.writeBack (k.operand hs _) _ _)) _
  case sre => exact k.resultA (k.setFlag _ _ _ (by decide) (k.writeBack (k.operand hs _) _ _)) _
  case sta => exact k.writeBack hs _ _
  case stx => exact k.writeBack hs _ _
  case sty => exact k.writeBack hs _ _
  case tax => exact k.setNZ _ _ (k.setX _ _ hs)
  case tay => exact k.setNZ _ _ (k.setY _ _ hs)
  case tsx => exact k.setNZ _ _ (k.setX _ _ hs)
  case txa => exact k.setNZ _ _ (k.setA _ _ hs)
  case txs => exact k.setSp _ _ hs
  case tya => exact k.setNZ _ _ (k.setA _ _ hs)
  case undefined => exact k.addDiag _ _ hm hs

end Sys2Proof.Machine
end

