-- ==== Sys2Proof/Laws/PerInstr.lean ====
section
/-!
SUPPORT. Statements about every instruction as syntax, one lemma per constructor: the family Encoded. And the opcode map
cell by cell: what each cell of the grid of R99 builds.
-/

namespace Sys2Proof.Laws

/-- A cell builds an instruction, from the operand bytes that the instruction's encoding has. -/
def Builds (c : Builder) (i : Instr) : Prop :=
  match c with
  | .bare j => j = i ∧ i.addrMode.bytes = []
  | .byte f => ∃ b, f b = i ∧ i.addrMode.bytes = [b]
  | .word f => ∃ w, f w = i ∧ i.addrMode.bytes = [lo8 w, hi8 w]

/-- The opcode map gives an instruction's opcode value that instruction's descriptor (R99), the encoding is as long as the
descriptor says (R98), and the opcode value's cell builds the instruction. -/
def Encoded.Statement (i : Instr) : Prop :=
  descOf i.opcode = i.desc ∧ (encode i).length = i.desc.len ∧ Builds (builderOf i.opcode) i

theorem Encoded.oraIndX (zp : Byte) : Encoded.Statement (.oraIndX zp) :=
  ⟨show descOf 0x01 = _ from rfl, rfl, show Builds (builderOf 0x01) _ from ⟨_, rfl, rfl⟩⟩
theorem Encoded.sloIndX (zp : Byte) : Encoded.Statement (.sloIndX zp) :=
  ⟨show descOf 0x03 = _ from rfl, rfl, show Builds (builderOf 0x03) _ from ⟨_, rfl, rfl⟩⟩
theorem Encoded.nopZp04 (zp : Byte) : Encoded.Statement (.nopZp04 zp) :=
  ⟨show descOf 0x04 = _ from rfl, rfl, show Builds (builderOf 0x04) _ from ⟨_, rfl, rfl⟩⟩
theorem Encoded.oraZp (zp : Byte) : Encoded.Statement (.oraZp zp) :=
  ⟨show descOf 0x05 = _ from rfl, rfl, show Builds (builderOf 0x05) _ from ⟨_, rfl, rfl⟩⟩
theorem Encoded.aslZp (zp : Byte) : Encoded.Statement (.aslZp zp) :=
  ⟨show descOf 0x06 = _ from rfl, rfl, show Builds (builderOf 0x06) _ from ⟨_, rfl, rfl⟩⟩
theorem Encoded.sloZp (zp : Byte) : Encoded.Statement (.sloZp zp) :=
  ⟨show descOf 0x07 = _ from rfl, rfl, show Builds (builderOf 0x07) _ from ⟨_, rfl, rfl⟩⟩
theorem Encoded.oraImm (imm : Byte) : Encoded.Statement (.oraImm imm) :=
  ⟨show descOf 0x09 = _ from rfl, rfl, show Builds (builderOf 0x09) _ from ⟨_, rfl, rfl⟩⟩
theorem Encoded.nopAbs0C (addr : Word) : Encoded.Statement (.nopAbs0C addr) :=
  ⟨show descOf 0x0C = _ from rfl, rfl, show Builds (builderOf 0x0C) _ from ⟨_, rfl, rfl⟩⟩
theorem Encoded.oraAbs (addr : Word) : Encoded.Statement (.oraAbs addr) :=
  ⟨show descOf 0x0D = _ from rfl, rfl, show Builds (builderOf 0x0D) _ from ⟨_, rfl, rfl⟩⟩
theorem Encoded.aslAbs (addr : Word) : Encoded.Statement (.aslAbs addr) :=
  ⟨show descOf 0x0E = _ from rfl, rfl, show Builds (builderOf 0x0E) _ from ⟨_, rfl, rfl⟩⟩
theorem Encoded.sloAbs (addr : Word) : Encoded.Statement (.sloAbs addr) :=
  ⟨show descOf 0x0F = _ from rfl, rfl, show Builds (builderOf 0x0F) _ from ⟨_, rfl, rfl⟩⟩
theorem Encoded.bpl (off : Byte) : Encoded.Statement (.bpl off) :=
  ⟨show descOf 0x10 = _ from rfl, rfl, show Builds (builderOf 0x10) _ from ⟨_, rfl, rfl⟩⟩
theorem Encoded.oraIndY (zp : Byte) : Encoded.Statement (.oraIndY zp) :=
  ⟨show descOf 0x11 = _ from rfl, rfl, show Builds (builderOf 0x11) _ from ⟨_, rfl, rfl⟩⟩
theorem Encoded.sloIndY (zp : Byte) : Encoded.Statement (.sloIndY zp) :=
  ⟨show descOf 0x13 = _ from rfl, rfl, show Builds (builderOf 0x13) _ from ⟨_, rfl, rfl⟩⟩
theorem Encoded.nopZpX14 (zp : Byte) : Encoded.Statement (.nopZpX14 zp) :=
  ⟨show descOf 0x14 = _ from rfl, rfl, show Builds (builderOf 0x14) _ from ⟨_, rfl, rfl⟩⟩
theorem Encoded.oraZpX (zp : Byte) : Encoded.Statement (.oraZpX zp) :=
  ⟨show descOf 0x15 = _ from rfl, rfl, show Builds (builderOf 0x15) _ from ⟨_, rfl, rfl⟩⟩
theorem Encoded.aslZpX (zp : Byte) : Encoded.Statement (.aslZpX zp) :=
  ⟨show descOf 0x16 = _ from rfl, rfl, show Builds (builderOf 0x16) _ from ⟨_, rfl, rfl⟩⟩
theorem Encoded.sloZpX (zp : Byte) : Encoded.Statement (.sloZpX zp) :=
  ⟨show descOf 0x17 = _ from rfl, rfl, show Builds (builderOf 0x17) _ from ⟨_, rfl, rfl⟩⟩
theorem Encoded.oraAbsY (addr : Word) : Encoded.Statement (.oraAbsY addr) :=
  ⟨show descOf 0x19 = _ from rfl, rfl, show Builds (builderOf 0x19) _ from ⟨_, rfl, rfl⟩⟩
theorem Encoded.sloAbsY (addr : Word) : Encoded.Statement (.sloAbsY addr) :=
  ⟨show descOf 0x1B = _ from rfl, rfl, show Builds (builderOf 0x1B) _ from ⟨_, rfl, rfl⟩⟩
theorem Encoded.nopAbsX1C (addr : Word) : Encoded.Statement (.nopAbsX1C addr) :=
  ⟨show descOf 0x1C = _ from rfl, rfl, show Builds (builderOf 0x1C) _ from ⟨_, rfl, rfl⟩⟩
theorem Encoded.oraAbsX (addr : Word) : Encoded.Statement (.oraAbsX addr) :=
  ⟨show descOf 0x1D = _ from rfl, rfl, show Builds (builderOf 0x1D) _ from ⟨_, rfl, rfl⟩⟩
theorem Encoded.aslAbsX (addr : Word) : Encoded.Statement (.aslAbsX addr) :=
  ⟨show descOf 0x1E = _ from rfl, rfl, show Builds (builderOf 0x1E) _ from ⟨_, rfl, rfl⟩⟩
theorem Encoded.sloAbsX (addr : Word) : Encoded.Statement (.sloAbsX addr) :=
  ⟨show descOf 0x1F = _ from rfl, rfl, show Builds (builderOf 0x1F) _ from ⟨_, rfl, rfl⟩⟩
theorem Encoded.jsrAbs (addr : Word) : Encoded.Statement (.jsrAbs addr) :=
  ⟨show descOf 0x20 = _ from rfl, rfl, show Builds (builderOf 0x20) _ from ⟨_, rfl, rfl⟩⟩
theorem Encoded.andIndX (zp : Byte) : Encoded.Statement (.andIndX zp) :=
  ⟨show descOf 0x21 = _ from rfl, rfl, show Builds (builderOf 0x21) _ from ⟨_, rfl, rfl⟩⟩
theorem Encoded.rlaIndX (zp : Byte) : Encoded.Statement (.rlaIndX zp) :=
  ⟨show descOf 0x23 = _ from rfl, rfl, show Builds (builderOf 0x23) _ from ⟨_, rfl, rfl⟩⟩
theorem Encoded.bitZp (zp : Byte) : Encoded.Statement (.bitZp zp) :=
  ⟨show descOf 0x24 = _ from rfl, rfl, show Builds (builderOf 0x24) _ from ⟨_, rfl, rfl⟩⟩
theorem Encoded.andZp (zp : Byte) : Encoded.Statement (.andZp zp) :=
  ⟨show descOf 0x25 = _ from rfl, rfl, show Builds (builderOf 0x25) _ from ⟨_, rfl, rfl⟩⟩
theorem Encoded.rolZp (zp : Byte) : Encoded.Statement (.rolZp zp) :=
  ⟨show descOf 0x26 = _ from rfl, rfl, show Builds (builderOf 0x26) _ from ⟨_, rfl, rfl⟩⟩
theorem Encoded.rlaZp (zp : Byte) : Encoded.Statement (.rlaZp zp) :=
  ⟨show descOf 0x27 = _ from rfl, rfl, show Builds (builderOf 0x27) _ from ⟨_, rfl, rfl⟩⟩
theorem Encoded.andImm (imm : Byte) : Encoded.Statement (.andImm imm) :=
  ⟨show descOf 0x29 = _ from rfl, rfl, show Builds (builderOf 0x29) _ from ⟨_, rfl, rfl⟩⟩
theorem Encoded.bitAbs (addr : Word) : Encoded.Statement (.bitAbs addr) :=
  ⟨show descOf 0x2C = _ from rfl, rfl, show Builds (builderOf 0x2C) _ from ⟨_, rfl, rfl⟩⟩
theorem Encoded.andAbs (addr : Word) : Encoded.Statement (.andAbs addr) :=
  ⟨show descOf 0x2D = _ from rfl, rfl, show Builds (builderOf 0x2D) _ from ⟨_, rfl, rfl⟩⟩
theorem Encoded.rolAbs (addr : Word) : Encoded.Statement (.rolAbs addr) :=
  ⟨show descOf 0x2E = _ from rfl, rfl, show Builds (builderOf 0x2E) _ from ⟨_, rfl, rfl⟩⟩
theorem Encoded.rlaAbs (addr : Word) : Encoded.Statement (.rlaAbs addr) :=
  ⟨show descOf 0x2F = _ from rfl, rfl, show Builds (builderOf 0x2F) _ from ⟨_, rfl, rfl⟩⟩
theorem Encoded.bmi (off : Byte) : Encoded.Statement (.bmi off) :=
  ⟨show descOf 0x30 = _ from rfl, rfl, show Builds (builderOf 0x30) _ from ⟨_, rfl, rfl⟩⟩
theorem Encoded.andIndY (zp : Byte) : Encoded.Statement (.andIndY zp) :=
  ⟨show descOf 0x31 = _ from rfl, rfl, show Builds (builderOf 0x31) _ from ⟨_, rfl, rfl⟩⟩
theorem Encoded.rlaIndY (zp : Byte) : Encoded.Statement (.rlaIndY zp) :=
  ⟨show descOf 0x33 = _ from rfl, rfl, show Builds (builderOf 0x33) _ from ⟨_, rfl, rfl⟩⟩
theorem Encoded.nopZpX34 (zp : Byte) : Encoded.Statement (.nopZpX34 zp) :=
  ⟨show descOf 0x34 = _ from rfl, rfl, show Builds (builderOf 0x34) _ from ⟨_, rfl, rfl⟩⟩
theorem Encoded.andZpX (zp : Byte) : Encoded.Statement (.andZpX zp) :=
  ⟨show descOf 0x35 = _ from rfl, rfl, show Builds (builderOf 0x35) _ from ⟨_, rfl, rfl⟩⟩
theorem Encoded.rolZpX (zp : Byte) : Encoded.Statement (.rolZpX zp) :=
  ⟨show descOf 0x36 = _ from rfl, rfl, show Builds (builderOf 0x36) _ from ⟨_, rfl, rfl⟩⟩
theorem Encoded.rlaZpX (zp : Byte) : Encoded.Statement (.rlaZpX zp) :=
  ⟨show descOf 0x37 = _ from rfl, rfl, show Builds (builderOf 0x37) _ from ⟨_, rfl, rfl⟩⟩
theorem Encoded.andAbsY (addr : Word) : Encoded.Statement (.andAbsY addr) :=
  ⟨show descOf 0x39 = _ from rfl, rfl, show Builds (builderOf 0x39) _ from ⟨_, rfl, rfl⟩⟩
theorem Encoded.rlaAbsY (addr : Word) : Encoded.Statement (.rlaAbsY addr) :=
  ⟨show descOf 0x3B = _ from rfl, rfl, show Builds (builderOf 0x3B) _ from ⟨_, rfl, rfl⟩⟩
theorem Encoded.nopAbsX3C (addr : Word) : Encoded.Statement (.nopAbsX3C addr) :=
  ⟨show descOf 0x3C = _ from rfl, rfl, show Builds (builderOf 0x3C) _ from ⟨_, rfl, rfl⟩⟩
theorem Encoded.andAbsX (addr : Word) : Encoded.Statement (.andAbsX addr) :=
  ⟨show descOf 0x3D = _ from rfl, rfl, show Builds (builderOf 0x3D) _ from ⟨_, rfl, rfl⟩⟩
theorem Encoded.rolAbsX (addr : Word) : Encoded.Statement (.rolAbsX addr) :=
  ⟨show descOf 0x3E = _ from rfl, rfl, show Builds (builderOf 0x3E) _ from ⟨_, rfl, rfl⟩⟩
theorem Encoded.rlaAbsX (addr : Word) : Encoded.Statement (.rlaAbsX addr) :=
  ⟨show descOf 0x3F = _ from rfl, rfl, show Builds (builderOf 0x3F) _ from ⟨_, rfl, rfl⟩⟩
theorem Encoded.eorIndX (zp : Byte) : Encoded.Statement (.eorIndX zp) :=
  ⟨show descOf 0x41 = _ from rfl, rfl, show Builds (builderOf 0x41) _ from ⟨_, rfl, rfl⟩⟩
theorem Encoded.sreIndX (zp : Byte) : Encoded.Statement (.sreIndX zp) :=
  ⟨show descOf 0x43 = _ from rfl, rfl, show Builds (builderOf 0x43) _ from ⟨_, rfl, rfl⟩⟩
theorem Encoded.nopZp44 (zp : Byte) : Encoded.Statement (.nopZp44 zp) :=
  ⟨show descOf 0x44 = _ from rfl, rfl, show Builds (builderOf 0x44) _ from ⟨_, rfl, rfl⟩⟩
theorem Encoded.eorZp (zp : Byte) : Encoded.Statement (.eorZp zp) :=
  ⟨show descOf 0x45 = _ from rfl, rfl, show Builds (builderOf 0x45) _ from ⟨_, rfl, rfl⟩⟩
theorem Encoded.lsrZp (zp : Byte) : Encoded.Statement (.lsrZp zp) :=
  ⟨show descOf 0x46 = _ from rfl, rfl, show Builds (builderOf 0x46) _ from ⟨_, rfl, rfl⟩⟩
theorem Encoded.sreZp (zp : Byte) : Encoded.Statement (.sreZp zp) :=
  ⟨show descOf 0x47 = _ from rfl, rfl, show Builds (builderOf 0x47) _ from ⟨_, rfl, rfl⟩⟩
theorem Encoded.eorImm (imm : Byte) : Encoded.Statement (.eorImm imm) :=
  ⟨show descOf 0x49 = _ from rfl, rfl, show Builds (builderOf 0x49) _ from ⟨_, rfl, rfl⟩⟩
theorem Encoded.jmpAbs (addr : Word) : Encoded.Statement (.jmpAbs addr) :=
  ⟨show descOf 0x4C = _ from rfl, rfl, show Builds (builderOf 0x4C) _ from ⟨_, rfl, rfl⟩⟩
theorem Encoded.eorAbs (addr : Word) : Encoded.Statement (.eorAbs addr) :=
  ⟨show descOf 0x4D = _ from rfl, rfl, show Builds (builderOf 0x4D) _ from ⟨_, rfl, rfl⟩⟩
theorem Encoded.lsrAbs (addr : Word) : Encoded.Statement (.lsrAbs addr) :=
  ⟨show descOf 0x4E = _ from rfl, rfl, show Builds (builderOf 0x4E) _ from ⟨_, rfl, rfl⟩⟩
theorem Encoded.sreAbs (addr : Word) : Encoded.Statement (.sreAbs addr) :=
  ⟨show descOf 0x4F = _ from rfl, rfl, show Builds (builderOf 0x4F) _ from ⟨_, rfl, rfl⟩⟩
theorem Encoded.bvc (off : Byte) : Encoded.Statement (.bvc off) :=
  ⟨show descOf 0x50 = _ from rfl, rfl, show Builds (builderOf 0x50) _ from ⟨_, rfl, rfl⟩⟩
theorem Encoded.eorIndY (zp : Byte) : Encoded.Statement (.eorIndY zp) :=
  ⟨show descOf 0x51 = _ from rfl, rfl, show Builds (builderOf 0x51) _ from ⟨_, rfl, rfl⟩⟩
theorem Encoded.sreIndY (zp : Byte) : Encoded.Statement (.sreIndY zp) :=
  ⟨show descOf 0x53 = _ from rfl, rfl, show Builds (builderOf 0x53) _ from ⟨_, rfl, rfl⟩⟩
theorem Encoded.nopZpX54 (zp : Byte) : Encoded.Statement (.nopZpX54 zp) :=
  ⟨show descOf 0x54 = _ from rfl, rfl, show Builds (builderOf 0x54) _ from ⟨_, rfl, rfl⟩⟩
theorem Encoded.eorZpX (zp : Byte) : Encoded.Statement (.eorZpX zp) :=
  ⟨show descOf 0x55 = _ from rfl, rfl, show Builds (builderOf 0x55) _ from ⟨_, rfl, rfl⟩⟩
theorem Encoded.lsrZpX (zp : Byte) : Encoded.Statement (.lsrZpX zp) :=
  ⟨show descOf 0x56 = _ from rfl, rfl, show Builds (builderOf 0x56) _ from ⟨_, rfl, rfl⟩⟩
theorem Encoded.sreZpX (zp : Byte) : Encoded.Statement (.sreZpX zp) :=
  ⟨show descOf 0x57 = _ from rfl, rfl, show Builds (builderOf 0x57) _ from ⟨_, rfl, rfl⟩⟩
theorem Encoded.eorAbsY (addr : Word) : Encoded.Statement (.eorAbsY addr) :=
  ⟨show descOf 0x59 = _ from rfl, rfl, show Builds (builderOf 0x59) _ from ⟨_, rfl, rfl⟩⟩
theorem Encoded.sreAbsY (addr : Word) : Encoded.Statement (.sreAbsY addr) :=
  ⟨show descOf 0x5B = _ from rfl, rfl, show Builds (builderOf 0x5B) _ from ⟨_, rfl, rfl⟩⟩
theorem Encoded.nopAbsX5C (addr : Word) : Encoded.Statement (.nopAbsX5C addr) :=
  ⟨show descOf 0x5C = _ from rfl, rfl, show Builds (builderOf 0x5C) _ from ⟨_, rfl, rfl⟩⟩
theorem Encoded.eorAbsX (addr : Word) : Encoded.Statement (.eorAbsX addr) :=
  ⟨show descOf 0x5D = _ from rfl, rfl, show Builds (builderOf 0x5D) _ from ⟨_, rfl, rfl⟩⟩
theorem Encoded.lsrAbsX (addr : Word) : Encoded.Statement (.lsrAbsX addr) :=
  ⟨show descOf 0x5E = _ from rfl, rfl, show Builds (builderOf 0x5E) _ from ⟨_, rfl, rfl⟩⟩
theorem Encoded.sreAbsX (addr : Word) : Encoded.Statement (.sreAbsX addr) :=
  ⟨show descOf 0x5F = _ from rfl, rfl, show Builds (builderOf 0x5F) _ from ⟨_, rfl, rfl⟩⟩
theorem Encoded.adcIndX (zp : Byte) : Encoded.Statement (.adcIndX zp) :=
  ⟨show descOf 0x61 = _ from rfl, rfl, show Builds (builderOf 0x61) _ from ⟨_, rfl, rfl⟩⟩
theorem Encoded.rraIndX (zp : Byte) : Encoded.Statement (.rraIndX zp) :=
  ⟨show descOf 0x63 = _ from rfl, rfl, show Builds (builderOf 0x63) _ from ⟨_, rfl, rfl⟩⟩
theorem Encoded.nopZp64 (zp : Byte) : Encoded.Statement (.nopZp64 zp) :=
  ⟨show descOf 0x64 = _ from rfl, rfl, show Builds (builderOf 0x64) _ from ⟨_, rfl, rfl⟩⟩
theorem Encoded.adcZp (zp : Byte) : Encoded.Statement (.adcZp zp) :=
  ⟨show descOf 0x65 = _ from rfl, rfl, show Builds (builderOf 0x65) _ from ⟨_, rfl, rfl⟩⟩
theorem Encoded.rorZp (zp : Byte) : Encoded.Statement (.rorZp zp) :=
  ⟨show descOf 0x66 = _ from rfl, rfl, show Builds (builderOf 0x66) _ from ⟨_, rfl, rfl⟩⟩
theorem Encoded.rraZp (zp : Byte) : Encoded.Statement (.rraZp zp) :=
  ⟨show descOf 0x67 = _ from rfl, rfl, show Builds (builderOf 0x67) _ from ⟨_, rfl, rfl⟩⟩
theorem Encoded.adcImm (imm : Byte) : Encoded.Statement (.adcImm imm) :=
  ⟨show descOf 0x69 = _ from rfl, rfl, show Builds (builderOf 0x69) _ from ⟨_, rfl, rfl⟩⟩
theorem Encoded.jmpInd (addr : Word) : Encoded.Statement (.jmpInd addr) :=
  ⟨show descOf 0x6C = _ from rfl, rfl, show Builds (builderOf 0x6C) _ from ⟨_, rfl, rfl⟩⟩
theorem Encoded.adcAbs (addr : Word) : Encoded.Statement (.adcAbs addr) :=
  ⟨show descOf 0x6D = _ from rfl, rfl, show Builds (builderOf 0x6D) _ from ⟨_, rfl, rfl⟩⟩
theorem Encoded.rorAbs (addr : Word) : Encoded.Statement (.rorAbs addr) :=
  ⟨show descOf 0x6E = _ from rfl, rfl, show Builds (builderOf 0x6E) _ from ⟨_, rfl, rfl⟩⟩
theorem Encoded.rraAbs (addr : Word) : Encoded.Statement (.rraAbs addr) :=
  ⟨show descOf 0x6F = _ from rfl, rfl, show Builds (builderOf 0x6F) _ from ⟨_, rfl, rfl⟩⟩
theorem Encoded.bvs (off : Byte) : Encoded.Statement (.bvs off) :=
  ⟨show descOf 0x70 = _ from rfl, rfl, show Builds (builderOf 0x70) _ from ⟨_, rfl, rfl⟩⟩
theorem Encoded.adcIndY (zp : Byte) : Encoded.Statement (.adcIndY zp) :=
  ⟨show descOf 0x71 = _ from rfl, rfl, show Builds (builderOf 0x71) _ from ⟨_, rfl, rfl⟩⟩
theorem Encoded.rraIndY (zp : Byte) : Encoded.Statement (.rraIndY zp) :=
  ⟨show descOf 0x73 = _ from rfl, rfl, show Builds (builderOf 0x73) _ from ⟨_, rfl, rfl⟩⟩
theorem Encoded.nopZpX74 (zp : Byte) : Encoded.Statement (.nopZpX74 zp) :=
  ⟨show descOf 0x74 = _ from rfl, rfl, show Builds (builderOf 0x74) _ from ⟨_, rfl, rfl⟩⟩
theorem Encoded.adcZpX (zp : Byte) : Encoded.Statement (.adcZpX zp) :=
  ⟨show descOf 0x75 = _ from rfl, rfl, show Builds (builderOf 0x75) _ from ⟨_, rfl, rfl⟩⟩
theorem Encoded.rorZpX (zp : Byte) : Encoded.Statement (.rorZpX zp) :=
  ⟨show descOf 0x76 = _ from rfl, rfl, show Builds (builderOf 0x76) _ from ⟨_, rfl, rfl⟩⟩
theorem Encoded.rraZpX (zp : Byte) : Encoded.Statement (.rraZpX zp) :=
  ⟨show descOf 0x77 = _ from rfl, rfl, show Builds (builderOf 0x77) _ from ⟨_, rfl, rfl⟩⟩
theorem Encoded.adcAbsY (addr : Word) : Encoded.Statement (.adcAbsY addr) :=
  ⟨show descOf 0x79 = _ from rfl, rfl, show Builds (builderOf 0x79) _ from ⟨_, rfl, rfl⟩⟩
theorem Encoded.rraAbsY (addr : Word) : Encoded.Statement (.rraAbsY addr) :=
  ⟨show descOf 0x7B = _ from rfl, rfl, show Builds (builderOf 0x7B) _ from ⟨_, rfl, rfl⟩⟩
theorem Encoded.nopAbsX7C (addr : Word) : Encoded.Statement (.nopAbsX7C addr) :=
  ⟨show descOf 0x7C = _ from rfl, rfl, show Builds (builderOf 0x7C) _ from ⟨_, rfl, rfl⟩⟩
theorem Encoded.adcAbsX (addr : Word) : Encoded.Statement (.adcAbsX addr) :=
  ⟨show descOf 0x7D = _ from rfl, rfl, show Builds (builderOf 0x7D) _ from ⟨_, rfl, rfl⟩⟩
theorem Encoded.rorAbsX (addr : Word) : Encoded.Statement (.rorAbsX addr) :=
  ⟨show descOf 0x7E = _ from rfl, rfl, show Builds (builderOf 0x7E) _ from ⟨_, rfl, rfl⟩⟩
theorem Encoded.rraAbsX (addr : Word) : Encoded.Statement (.rraAbsX addr) :=
  ⟨show descOf 0x7F = _ from rfl, rfl, show Builds (builderOf 0x7F) _ from ⟨_, rfl, rfl⟩⟩
theorem Encoded.staIndX (zp : Byte) : Encoded.Statement (.staIndX zp) :=
  ⟨show descOf 0x81 = _ from rfl, rfl, show Builds (builderOf 0x81) _ from ⟨_, rfl, rfl⟩⟩
theorem Encoded.saxIndX (zp : Byte) : Encoded.Statement (.saxIndX zp) :=
  ⟨show descOf 0x83 = _ from rfl, rfl, show Builds (builderOf 0x83) _ from ⟨_, rfl, rfl⟩⟩
theorem Encoded.styZp (zp : Byte) : Encoded.Statement (.styZp zp) :=
  ⟨show descOf 0x84 = _ from rfl, rfl, show Builds (builderOf 0x84) _ from ⟨_, rfl, rfl⟩⟩
theorem Encoded.staZp (zp : Byte) : Encoded.Statement (.staZp zp) :=
  ⟨show descOf 0x85 = _ from rfl, rfl, show Builds (builderOf 0x85) _ from ⟨_, rfl, rfl⟩⟩
theorem Encoded.stxZp (zp : Byte) : Encoded.Statement (.stxZp zp) :=
  ⟨show descOf 0x86 = _ from rfl, rfl, show Builds (builderOf 0x86) _ from ⟨_, rfl, rfl⟩⟩
theorem Encoded.saxZp (zp : Byte) : Encoded.Statement (.saxZp zp) :=
  ⟨show descOf 0x87 = _ from rfl, rfl, show Builds (builderOf 0x87) _ from ⟨_, rfl, rfl⟩⟩
theorem Encoded.styAbs (addr : Word) : Encoded.Statement (.styAbs addr) :=
  ⟨show descOf 0x8C = _ from rfl, rfl, show Builds (builderOf 0x8C) _ from ⟨_, rfl, rfl⟩⟩
theorem Encoded.staAbs (addr : Word) : Encoded.Statement (.staAbs addr) :=
  ⟨show descOf 0x8D = _ from rfl, rfl, show Builds (builderOf 0x8D) _ from ⟨_, rfl, rfl⟩⟩
theorem Encoded.stxAbs (addr : Word) : Encoded.Statement (.stxAbs addr) :=
  ⟨show descOf 0x8E = _ from rfl, rfl, show Builds (builderOf 0x8E) _ from ⟨_, rfl, rfl⟩⟩
theorem Encoded.saxAbs (addr : Word) : Encoded.Statement (.saxAbs addr) :=
  ⟨show descOf 0x8F = _ from rfl, rfl, show Builds (builderOf 0x8F) _ from ⟨_, rfl, rfl⟩⟩
theorem Encoded.bcc (off : Byte) : Encoded.Statement (.bcc off) :=
  ⟨show descOf 0x90 = _ from rfl, rfl, show Builds (builderOf 0x90) _ from ⟨_, rfl, rfl⟩⟩
theorem Encoded.staIndY (zp : Byte) : Encoded.Statement (.staIndY zp) :=
  ⟨show descOf 0x91 = _ from rfl, rfl, show Builds (builderOf 0x91) _ from ⟨_, rfl, rfl⟩⟩
theorem Encoded.styZpX (zp : Byte) : Encoded.Statement (.styZpX zp) :=
  ⟨show descOf 0x94 = _ from rfl, rfl, show Builds (builderOf 0x94) _ from ⟨_, rfl, rfl⟩⟩
theorem Encoded.staZpX (zp : Byte) : Encoded.Statement (.staZpX zp) :=
  ⟨show descOf 0x95 = _ from rfl, rfl, show Builds (builderOf 0x95) _ from ⟨_, rfl, rfl⟩⟩
theorem Encoded.stxZpY (zp : Byte) : Encoded.Statement (.stxZpY zp) :=
  ⟨show descOf 0x96 = _ from rfl, rfl, show Builds (builderOf 0x96) _ from ⟨_, rfl, rfl⟩⟩
theorem Encoded.saxZpY (zp : Byte) : Encoded.Statement (.saxZpY zp) :=
  ⟨show descOf 0x97 = _ from rfl, rfl, show Builds (builderOf 0x97) _ from ⟨_, rfl, rfl⟩⟩
theorem Encoded.staAbsY (addr : Word) : Encoded.Statement (.staAbsY addr) :=
  ⟨show descOf 0x99 = _ from rfl, rfl, show Builds (builderOf 0x99) _ from ⟨_, rfl, rfl⟩⟩
theorem Encoded.staAbsX (addr : Word) : Encoded.Statement (.staAbsX addr) :=
  ⟨show descOf 0x9D = _ from rfl, rfl, show Builds (builderOf 0x9D) _ from ⟨_, rfl, rfl⟩⟩
theorem Encoded.ldyImm (imm : Byte) : Encoded.Statement (.ldyImm imm) :=
  ⟨show descOf 0xA0 = _ from rfl, rfl, show Builds (builderOf 0xA0) _ from ⟨_, rfl, rfl⟩⟩
theorem Encoded.ldaIndX (zp : Byte) : Encoded.Statement (.ldaIndX zp) :=
  ⟨show descOf 0xA1 = _ from rfl, rfl, show Builds (builderOf 0xA1) _ from ⟨_, rfl, rfl⟩⟩
theorem Encoded.ldxImm (imm : Byte) : Encoded.Statement (.ldxImm imm) :=
  ⟨show descOf 0xA2 = _ from rfl, rfl, show Builds (builderOf 0xA2) _ from ⟨_, rfl, rfl⟩⟩
theorem Encoded.laxIndX (zp : Byte) : Encoded.Statement (.laxIndX zp) :=
  ⟨show descOf 0xA3 = _ from rfl, rfl, show Builds (builderOf 0xA3) _ from ⟨_, rfl, rfl⟩⟩
theorem Encoded.ldyZp (zp : Byte) : Encoded.Statement (.ldyZp zp) :=
  ⟨show descOf 0xA4 = _ from rfl, rfl, show Builds (builderOf 0xA4) _ from ⟨_, rfl, rfl⟩⟩
theorem Encoded.ldaZp (zp : Byte) : Encoded.Statement (.ldaZp zp) :=
  ⟨show descOf 0xA5 = _ from rfl, rfl, show Builds (builderOf 0xA5) _ from ⟨_, rfl, rfl⟩⟩
theorem Encoded.ldxZp (zp : Byte) : Encoded.Statement (.ldxZp zp) :=
  ⟨show descOf 0xA6 = _ from rfl, rfl, show Builds (builderOf 0xA6) _ from ⟨_, rfl, rfl⟩⟩
theorem Encoded.laxZp (zp : Byte) : Encoded.Statement (.laxZp zp) :=
  ⟨show descOf 0xA7 = _ from rfl, rfl, show Builds (builderOf 0xA7) _ from ⟨_, rfl, rfl⟩⟩
theorem Encoded.ldaImm (imm : Byte) : Encoded.Statement (.ldaImm imm) :=
  ⟨show descOf 0xA9 = _ from rfl, rfl, show Builds (builderOf 0xA9) _ from ⟨_, rfl, rfl⟩⟩
theorem Encoded.ldyAbs (addr : Word) : Encoded.Statement (.ldyAbs addr) :=
  ⟨show descOf 0xAC = _ from rfl, rfl, show Builds (builderOf 0xAC) _ from ⟨_, rfl, rfl⟩⟩
theorem Encoded.ldaAbs (addr : Word) : Encoded.Statement (.ldaAbs addr) :=
  ⟨show descOf 0xAD = _ from rfl, rfl, show Builds (builderOf 0xAD) _ from ⟨_, rfl, rfl⟩⟩
theorem Encoded.ldxAbs (addr : Word) : Encoded.Statement (.ldxAbs addr) :=
  ⟨show descOf 0xAE = _ from rfl, rfl, show Builds (builderOf 0xAE) _ from ⟨_, rfl, rfl⟩⟩
theorem Encoded.laxAbs (addr : Word) : Encoded.Statement (.laxAbs addr) :=
  ⟨show descOf 0xAF = _ from rfl, rfl, show Builds (builderOf 0xAF) _ from ⟨_, rfl, rfl⟩⟩
theorem Encoded.bcs (off : Byte) : Encoded.Statement (.bcs off) :=
  ⟨show descOf 0xB0 = _ from rfl, rfl, show Builds (builderOf 0xB0) _ from ⟨_, rfl, rfl⟩⟩
theorem Encoded.ldaIndY (zp : Byte) : Encoded.Statement (.ldaIndY zp) :=
  ⟨show descOf 0xB1 = _ from rfl, rfl, show Builds (builderOf 0xB1) _ from ⟨_, rfl, rfl⟩⟩
theorem Encoded.laxIndY (zp : Byte) : Encoded.Statement (.laxIndY zp) :=
  ⟨show descOf 0xB3 = _ from rfl, rfl, show Builds (builderOf 0xB3) _ from ⟨_, rfl, rfl⟩⟩
theorem Encoded.ldyZpX (zp : Byte) : Encoded.Statement (.ldyZpX zp) :=
  ⟨show descOf 0xB4 = _ from rfl, rfl, show Builds (builderOf 0xB4) _ from ⟨_, rfl, rfl⟩⟩
theorem Encoded.ldaZpX (zp : Byte) : Encoded.Statement (.ldaZpX zp) :=
  ⟨show descOf 0xB5 = _ from rfl, rfl, show Builds (builderOf 0xB5) _ from ⟨_, rfl, rfl⟩⟩
theorem Encoded.ldxZpY (zp : Byte) : Encoded.Statement (.ldxZpY zp) :=
  ⟨show descOf 0xB6 = _ from rfl, rfl, show Builds (builderOf 0xB6) _ from ⟨_, rfl, rfl⟩⟩
theorem Encoded.laxZpY (zp : Byte) : Encoded.Statement (.laxZpY zp) :=
  ⟨show descOf 0xB7 = _ from rfl, rfl, show Builds (builderOf 0xB7) _ from ⟨_, rfl, rfl⟩⟩
theorem Encoded.ldaAbsY (addr : Word) : Encoded.Statement (.ldaAbsY addr) :=
  ⟨show descOf 0xB9 = _ from rfl, rfl, show Builds (builderOf 0xB9) _ from ⟨_, rfl, rfl⟩⟩
theorem Encoded.ldyAbsX (addr : Word) : Encoded.Statement (.ldyAbsX addr) :=
  ⟨show descOf 0xBC = _ from rfl, rfl, show Builds (builderOf 0xBC) _ from ⟨_, rfl, rfl⟩⟩
theorem Encoded.ldaAbsX (addr : Word) : Encoded.Statement (.ldaAbsX addr) :=
  ⟨show descOf 0xBD = _ from rfl, rfl, show Builds (builderOf 0xBD) _ from ⟨_, rfl, rfl⟩⟩
theorem Encoded.ldxAbsY (addr : Word) : Encoded.Statement (.ldxAbsY addr) :=
  ⟨show descOf 0xBE = _ from rfl, rfl, show Builds (builderOf 0xBE) _ from ⟨_, rfl, rfl⟩⟩
theorem Encoded.laxAbsY (addr : Word) : Encoded.Statement (.laxAbsY addr) :=
  ⟨show descOf 0xBF = _ from rfl, rfl, show Builds (builderOf 0xBF) _ from ⟨_, rfl, rfl⟩⟩
theorem Encoded.cpyImm (imm : Byte) : Encoded.Statement (.cpyImm imm) :=
  ⟨show descOf 0xC0 = _ from rfl, rfl, show Builds (builderOf 0xC0) _ from ⟨_, rfl, rfl⟩⟩
theorem Encoded.cmpIndX (zp : Byte) : Encoded.Statement (.cmpIndX zp) :=
  ⟨show descOf 0xC1 = _ from rfl, rfl, show Builds (builderOf 0xC1) _ from ⟨_, rfl, rfl⟩⟩
theorem Encoded.dcpIndX (zp : Byte) : Encoded.Statement (.dcpIndX zp) :=
  ⟨show descOf 0xC3 = _ from rfl, rfl, show Builds (builderOf 0xC3) _ from ⟨_, rfl, rfl⟩⟩
theorem Encoded.cpyZp (zp : Byte) : Encoded.Statement (.cpyZp zp) :=
  ⟨show descOf 0xC4 = _ from rfl, rfl, show Builds (builderOf 0xC4) _ from ⟨_, rfl, rfl⟩⟩
theorem Encoded.cmpZp (zp : Byte) : Encoded.Statement (.cmpZp zp) :=
  ⟨show descOf 0xC5 = _ from rfl, rfl, show Builds (builderOf 0xC5) _ from ⟨_, rfl, rfl⟩⟩
theorem Encoded.decZp (zp : Byte) : Encoded.Statement (.decZp zp) :=
  ⟨show descOf 0xC6 = _ from rfl, rfl, show Builds (builderOf 0xC6) _ from ⟨_, rfl, rfl⟩⟩
theorem Encoded.dcpZp (zp : Byte) : Encoded.Statement (.dcpZp zp) :=
  ⟨show descOf 0xC7 = _ from rfl, rfl, show Builds (builderOf 0xC7) _ from ⟨_, rfl, rfl⟩⟩
theorem Encoded.cmpImm (imm : Byte) : Encoded.Statement (.cmpImm imm) :=
  ⟨show descOf 0xC9 = _ from rfl, rfl, show Builds (builderOf 0xC9) _ from ⟨_, rfl, rfl⟩⟩
theorem Encoded.cpyAbs (addr : Word) : Encoded.Statement (.cpyAbs addr) :=
  ⟨show descOf 0xCC = _ from rfl, rfl, show Builds (builderOf 0xCC) _ from ⟨_, rfl, rfl⟩⟩
theorem Encoded.cmpAbs (addr : Word) : Encoded.Statement (.cmpAbs addr) :=
  ⟨show descOf 0xCD = _ from rfl, rfl, show Builds (builderOf 0xCD) _ from ⟨_, rfl, rfl⟩⟩
theorem Encoded.decAbs (addr : Word) : Encoded.Statement (.decAbs addr) :=
  ⟨show descOf 0xCE = _ from rfl, rfl, show Builds (builderOf 0xCE) _ from ⟨_, rfl, rfl⟩⟩
theorem Encoded.dcpAbs (addr : Word) : Encoded.Statement (.dcpAbs addr) :=
  ⟨show descOf 0xCF = _ from rfl, rfl, show Builds (builderOf 0xCF) _ from ⟨_, rfl, rfl⟩⟩
theorem Encoded.bne (off : Byte) : Encoded.Statement (.bne off) :=
  ⟨show descOf 0xD0 = _ from rfl, rfl, show Builds (builderOf 0xD0) _ from ⟨_, rfl, rfl⟩⟩
theorem Encoded.cmpIndY (zp : Byte) : Encoded.Statement (.cmpIndY zp) :=
  ⟨show descOf 0xD1 = _ from rfl, rfl, show Builds (builderOf 0xD1) _ from ⟨_, rfl, rfl⟩⟩
theorem Encoded.dcpIndY (zp : Byte) : Encoded.Statement (.dcpIndY zp) :=
  ⟨show descOf 0xD3 = _ from rfl, rfl, show Builds (builderOf 0xD3) _ from ⟨_, rfl, rfl⟩⟩
theorem Encoded.nopZpXD4 (zp : Byte) : Encoded.Statement (.nopZpXD4 zp) :=
  ⟨show descOf 0xD4 = _ from rfl, rfl, show Builds (builderOf 0xD4) _ from ⟨_, rfl, rfl⟩⟩
theorem Encoded.cmpZpX (zp : Byte) : Encoded.Statement (.cmpZpX zp) :=
  ⟨show descOf 0xD5 = _ from rfl, rfl, show Builds (builderOf 0xD5) _ from ⟨_, rfl, rfl⟩⟩
theorem Encoded.decZpX (zp : Byte) : Encoded.Statement (.decZpX zp) :=
  ⟨show descOf 0xD6 = _ from rfl, rfl, show Builds (builderOf 0xD6) _ from ⟨_, rfl, rfl⟩⟩
theorem Encoded.dcpZpX (zp : Byte) : Encoded.Statement (.dcpZpX zp) :=
  ⟨show descOf 0xD7 = _ from rfl, rfl, show Builds (builderOf 0xD7) _ from ⟨_, rfl, rfl⟩⟩
theorem Encoded.cmpAbsY (addr : Word) : Encoded.Statement (.cmpAbsY addr) :=
  ⟨show descOf 0xD9 = _ from rfl, rfl, show Builds (builderOf 0xD9) _ from ⟨_, rfl, rfl⟩⟩
theorem Encoded.dcpAbsY (addr : Word) : Encoded.Statement (.dcpAbsY addr) :=
  ⟨show descOf 0xDB = _ from rfl, rfl, show Builds (builderOf 0xDB) _ from ⟨_, rfl, rfl⟩⟩
theorem Encoded.nopAbsXDC (addr : Word) : Encoded.Statement (.nopAbsXDC addr) :=
  ⟨show descOf 0xDC = _ from rfl, rfl, show Builds (builderOf 0xDC) _ from ⟨_, rfl, rfl⟩⟩
theorem Encoded.cmpAbsX (addr : Word) : Encoded.Statement (.cmpAbsX addr) :=
  ⟨show descOf 0xDD = _ from rfl, rfl, show Builds (builderOf 0xDD) _ from ⟨_, rfl, rfl⟩⟩
theorem Encoded.decAbsX (addr : Word) : Encoded.Statement (.decAbsX addr) :=
  ⟨show descOf 0xDE = _ from rfl, rfl, show Builds (builderOf 0xDE) _ from ⟨_, rfl, rfl⟩⟩
theorem Encoded.dcpAbsX (addr : Word) : Encoded.Statement (.dcpAbsX addr) :=
  ⟨show descOf 0xDF = _ from rfl, rfl, show Builds (builderOf 0xDF) _ from ⟨_, rfl, rfl⟩⟩
theorem Encoded.cpxImm (imm : Byte) : Encoded.Statement (.cpxImm imm) :=
  ⟨show descOf 0xE0 = _ from rfl, rfl, show Builds (builderOf 0xE0) _ from ⟨_, rfl, rfl⟩⟩
theorem Encoded.sbcIndX (zp : Byte) : Encoded.Statement (.sbcIndX zp) :=
  ⟨show descOf 0xE1 = _ from rfl, rfl, show Builds (builderOf 0xE1) _ from ⟨_, rfl, rfl⟩⟩
theorem Encoded.isbIndX (zp : Byte) : Encoded.Statement (.isbIndX zp) :=
  ⟨show descOf 0xE3 = _ from rfl, rfl, show Builds (builderOf 0xE3) _ from ⟨_, rfl, rfl⟩⟩
theorem Encoded.cpxZp (zp : Byte) : Encoded.Statement (.cpxZp zp) :=
  ⟨show descOf 0xE4 = _ from rfl, rfl, show Builds (builderOf 0xE4) _ from ⟨_, rfl, rfl⟩⟩
theorem Encoded.sbcZp (zp : Byte) : Encoded.Statement (.sbcZp zp) :=
  ⟨show descOf 0xE5 = _ from rfl, rfl, show Builds (builderOf 0xE5) _ from ⟨_, rfl, rfl⟩⟩
theorem Encoded.incZp (zp : Byte) : Encoded.Statement (.incZp zp) :=
  ⟨show descOf 0xE6 = _ from rfl, rfl, show Builds (builderOf 0xE6) _ from ⟨_, rfl, rfl⟩⟩
theorem Encoded.isbZp (zp : Byte) : Encoded.Statement (.isbZp zp) :=
  ⟨show descOf 0xE7 = _ from rfl, rfl, show Builds (builderOf 0xE7) _ from ⟨_, rfl, rfl⟩⟩
theorem Encoded.sbcImm (imm : Byte) : Encoded.Statement (.sbcImm imm) :=
  ⟨show descOf 0xE9 = _ from rfl, rfl, show Builds (builderOf 0xE9) _ from ⟨_, rfl, rfl⟩⟩
theorem Encoded.sbcImmEB (imm : Byte) : Encoded.Statement (.sbcImmEB imm) :=
  ⟨show descOf 0xEB = _ from rfl, rfl, show Builds (builderOf 0xEB) _ from ⟨_, rfl, rfl⟩⟩
theorem Encoded.cpxAbs (addr : Word) : Encoded.Statement (.cpxAbs addr) :=
  ⟨show descOf 0xEC = _ from rfl, rfl, show Builds (builderOf 0xEC) _ from ⟨_, rfl, rfl⟩⟩
theorem Encoded.sbcAbs (addr : Word) : Encoded.Statement (.sbcAbs addr) :=
  ⟨show descOf 0xED = _ from rfl, rfl, show Builds (builderOf 0xED) _ from ⟨_, rfl, rfl⟩⟩
theorem Encoded.incAbs (addr : Word) : Encoded.Statement (.incAbs addr) :=
  ⟨show descOf 0xEE = _ from rfl, rfl, show Builds (builderOf 0xEE) _ from ⟨_, rfl, rfl⟩⟩
theorem Encoded.isbAbs (addr : Word) : Encoded.Statement (.isbAbs addr) :=
  ⟨show descOf 0xEF = _ from rfl, rfl, show Builds (builderOf 0xEF) _ from ⟨_, rfl, rfl⟩⟩
theorem Encoded.beq (off : Byte) : Encoded.Statement (.beq off) :=
  ⟨show descOf 0xF0 = _ from rfl, rfl, show Builds (builderOf 0xF0) _ from ⟨_, rfl, rfl⟩⟩
theorem Encoded.sbcIndY (zp : Byte) : Encoded.Statement (.sbcIndY zp) :=
  ⟨show descOf 0xF1 = _ from rfl, rfl, show Builds (builderOf 0xF1) _ from ⟨_, rfl, rfl⟩⟩
theorem Encoded.isbIndY (zp : Byte) : Encoded.Statement (.isbIndY zp) :=
  ⟨show descOf 0xF3 = _ from rfl, rfl, show Builds (builderOf 0xF3) _ from ⟨_, rfl, rfl⟩⟩
theorem Encoded.nopZpXF4 (zp : Byte) : Encoded.Statement (.nopZpXF4 zp) :=
  ⟨show descOf 0xF4 = _ from rfl, rfl, show Builds (builderOf 0xF4) _ from ⟨_, rfl, rfl⟩⟩
theorem Encoded.sbcZpX (zp : Byte) : Encoded.Statement (.sbcZpX zp) :=
  ⟨show descOf 0xF5 = _ from rfl, rfl, show Builds (builderOf 0xF5) _ from ⟨_, rfl, rfl⟩⟩
theorem Encoded.incZpX (zp : Byte) : Encoded.Statement (.incZpX zp) :=
  ⟨show descOf 0xF6 = _ from rfl, rfl, show Builds (builderOf 0xF6) _ from ⟨_, rfl, rfl⟩⟩
theorem Encoded.isbZpX (zp : Byte) : Encoded.Statement (.isbZpX zp) :=
  ⟨show descOf 0xF7 = _ from rfl, rfl, show Builds (builderOf 0xF7) _ from ⟨_, rfl, rfl⟩⟩
theorem Encoded.sbcAbsY (addr : Word) : Encoded.Statement (.sbcAbsY addr) :=
  ⟨show descOf 0xF9 = _ from rfl, rfl, show Builds (builderOf 0xF9) _ from ⟨_, rfl, rfl⟩⟩
theorem Encoded.isbAbsY (addr : Word) : Encoded.Statement (.isbAbsY addr) :=
  ⟨show descOf 0xFB = _ from rfl, rfl, show Builds (builderOf 0xFB) _ from ⟨_, rfl, rfl⟩⟩
theorem Encoded.nopAbsXFC (addr : Word) : Encoded.Statement (.nopAbsXFC addr) :=
  ⟨show descOf 0xFC = _ from rfl, rfl, show Builds (builderOf 0xFC) _ from ⟨_, rfl, rfl⟩⟩
theorem Encoded.sbcAbsX (addr : Word) : Encoded.Statement (.sbcAbsX addr) :=
  ⟨show descOf 0xFD = _ from rfl, rfl, show Builds (builderOf 0xFD) _ from ⟨_, rfl, rfl⟩⟩
theorem Encoded.incAbsX (addr : Word) : Encoded.Statement (.incAbsX addr) :=
  ⟨show descOf 0xFE = _ from rfl, rfl, show Builds (builderOf 0xFE) _ from ⟨_, rfl, rfl⟩⟩
theorem Encoded.isbAbsX (addr : Word) : Encoded.Statement (.isbAbsX addr) :=
  ⟨show descOf 0xFF = _ from rfl, rfl, show Builds (builderOf 0xFF) _ from ⟨_, rfl, rfl⟩⟩
theorem Encoded.brk : Encoded.Statement .brk :=
  ⟨show descOf 0x00 = _ from rfl, rfl, show Builds (builderOf 0x00) _ from ⟨rfl, rfl⟩⟩
theorem Encoded.undef02 : Encoded.Statement .undef02 :=
  ⟨show descOf 0x02 = _ from rfl, rfl, show Builds (builderOf 0x02) _ from ⟨rfl, rfl⟩⟩
theorem Encoded.php : Encoded.Statement .php :=
  ⟨show descOf 0x08 = _ from rfl, rfl, show Builds (builderOf 0x08) _ from ⟨rfl, rfl⟩⟩
theorem Encoded.aslAcc : Encoded.Statement .aslAcc :=
  ⟨show descOf 0x0A = _ from rfl, rfl, show Builds (builderOf 0x0A) _ from ⟨rfl, rfl⟩⟩
theorem Encoded.undef0B : Encoded.Statement .undef0B :=
  ⟨show descOf 0x0B = _ from rfl, rfl, show Builds (builderOf 0x0B) _ from ⟨rfl, rfl⟩⟩
theorem Encoded.undef12 : Encoded.Statement .undef12 :=
  ⟨show descOf 0x12 = _ from rfl, rfl, show Builds (builderOf 0x12) _ from ⟨rfl, rfl⟩⟩
theorem Encoded.clc : Encoded.Statement .clc :=
  ⟨show descOf 0x18 = _ from rfl, rfl, show Builds (builderOf 0x18) _ from ⟨rfl, rfl⟩⟩
theorem Encoded.nop1A : Encoded.Statement .nop1A :=
  ⟨show descOf 0x1A = _ from rfl, rfl, show Builds (builderOf 0x1A) _ from ⟨rfl, rfl⟩⟩
theorem Encoded.undef22 : Encoded.Statement .undef22 :=
  ⟨show descOf 0x22 = _ from rfl, rfl, show Builds (builderOf 0x22) _ from ⟨rfl, rfl⟩⟩
theorem Encoded.plp : Encoded.Statement .plp :=
  ⟨show descOf 0x28 = _ from rfl, rfl, show Builds (builderOf 0x28) _ from ⟨rfl, rfl⟩⟩
theorem Encoded.rolAcc : Encoded.Statement .rolAcc :=
  ⟨show descOf 0x2A = _ from rfl, rfl, show Builds (builderOf 0x2A) _ from ⟨rfl, rfl⟩⟩
theorem Encoded.undef2B : Encoded.Statement .undef2B :=
  ⟨show descOf 0x2B = _ from rfl, rfl, show Builds (builderOf 0x2B) _ from ⟨rfl, rfl⟩⟩
theorem Encoded.undef32 : Encoded.Statement .undef32 :=
  ⟨show descOf 0x32 = _ from rfl, rfl, show Builds (builderOf 0x32) _ from ⟨rfl, rfl⟩⟩
theorem Encoded.sec : Encoded.Statement .sec :=
  ⟨show descOf 0x38 = _ from rfl, rfl, show Builds (builderOf 0x38) _ from ⟨rfl, rfl⟩⟩
theorem Encoded.nop3A : Encoded.Statement .nop3A :=
  ⟨show descOf 0x3A = _ from rfl, rfl, show Builds (builderOf 0x3A) _ from ⟨rfl, rfl⟩⟩
theorem Encoded.rti : Encoded.Statement .rti :=
  ⟨show descOf 0x40 = _ from rfl, rfl, show Builds (builderOf 0x40) _ from ⟨rfl, rfl⟩⟩
theorem Encoded.undef42 : Encoded.Statement .undef42 :=
  ⟨show descOf 0x42 = _ from rfl, rfl, show Builds (builderOf 0x42) _ from ⟨rfl, rfl⟩⟩
theorem Encoded.pha : Encoded.Statement .pha :=
  ⟨show descOf 0x48 = _ from rfl, rfl, show Builds (builderOf 0x48) _ from ⟨rfl, rfl⟩⟩
theorem Encoded.lsrAcc : Encoded.Statement .lsrAcc :=
  ⟨show descOf 0x4A = _ from rfl, rfl, show Builds (builderOf 0x4A) _ from ⟨rfl, rfl⟩⟩
theorem Encoded.undef4B : Encoded.Statement .undef4B :=
  ⟨show descOf 0x4B = _ from rfl, rfl, show Builds (builderOf 0x4B) _ from ⟨rfl, rfl⟩⟩
theorem Encoded.undef52 : Encoded.Statement .undef52 :=
  ⟨show descOf 0x52 = _ from rfl, rfl, show Builds (builderOf 0x52) _ from ⟨rfl, rfl⟩⟩
theorem Encoded.cli : Encoded.Statement .cli :=
  ⟨show descOf 0x58 = _ from rfl, rfl, show Builds (builderOf 0x58) _ from ⟨rfl, rfl⟩⟩
theorem Encoded.nop5A : Encoded.Statement .nop5A :=
  ⟨show descOf 0x5A = _ from rfl, rfl, show Builds (builderOf 0x5A) _ from ⟨rfl, rfl⟩⟩
theorem Encoded.rts : Encoded.Statement .rts :=
  ⟨show descOf 0x60 = _ from rfl, rfl, show Builds (builderOf 0x60) _ from ⟨rfl, rfl⟩⟩
theorem Encoded.undef62 : Encoded.Statement .undef62 :=
  ⟨show descOf 0x62 = _ from rfl, rfl, show Builds (builderOf 0x62) _ from ⟨rfl, rfl⟩⟩
theorem Encoded.pla : Encoded.Statement .pla :=
  ⟨show descOf 0x68 = _ from rfl, rfl, show Builds (builderOf 0x68) _ from ⟨rfl, rfl⟩⟩
theorem Encoded.rorAcc : Encoded.Statement .rorAcc :=
  ⟨show descOf 0x6A = _ from rfl, rfl, show Builds (builderOf 0x6A) _ from ⟨rfl, rfl⟩⟩
theorem Encoded.undef6B : Encoded.Statement .undef6B :=
  ⟨show descOf 0x6B = _ from rfl, rfl, show Builds (builderOf 0x6B) _ from ⟨rfl, rfl⟩⟩
theorem Encoded.undef72 : Encoded.Statement .undef72 :=
  ⟨show descOf 0x72 = _ from rfl, rfl, show Builds (builderOf 0x72) _ from ⟨rfl, rfl⟩⟩
theorem Encoded.sei : Encoded.Statement .sei :=
  ⟨show descOf 0x78 = _ from rfl, rfl, show Builds (builderOf 0x78) _ from ⟨rfl, rfl⟩⟩
theorem Encoded.nop7A : Encoded.Statement .nop7A :=
  ⟨show descOf 0x7A = _ from rfl, rfl, show Builds (builderOf 0x7A) _ from ⟨rfl, rfl⟩⟩
theorem Encoded.nopImm80 : Encoded.Statement .nopImm80 :=
  ⟨show descOf 0x80 = _ from rfl, rfl, show Builds (builderOf 0x80) _ from ⟨rfl, rfl⟩⟩
theorem Encoded.undef82 : Encoded.Statement .undef82 :=
  ⟨show descOf 0x82 = _ from rfl, rfl, show Builds (builderOf 0x82) _ from ⟨rfl, rfl⟩⟩
theorem Encoded.dey : Encoded.Statement .dey :=
  ⟨show descOf 0x88 = _ from rfl, rfl, show Builds (builderOf 0x88) _ from ⟨rfl, rfl⟩⟩
theorem Encoded.undef89 : Encoded.Statement .undef89 :=
  ⟨show descOf 0x89 = _ from rfl, rfl, show Builds (builderOf 0x89) _ from ⟨rfl, rfl⟩⟩
theorem Encoded.txa : Encoded.Statement .txa :=
  ⟨show descOf 0x8A = _ from rfl, rfl, show Builds (builderOf 0x8A) _ from ⟨rfl, rfl⟩⟩
theorem Encoded.undef8B : Encoded.Statement .undef8B :=
  ⟨show descOf 0x8B = _ from rfl, rfl, show Builds (builderOf 0x8B) _ from ⟨rfl, rfl⟩⟩
theorem Encoded.undef92 : Encoded.Statement .undef92 :=
  ⟨show descOf 0x92 = _ from rfl, rfl, show Builds (builderOf 0x92) _ from ⟨rfl, rfl⟩⟩
theorem Encoded.undef93 : Encoded.Statement .undef93 :=
  ⟨show descOf 0x93 = _ from rfl, rfl, show Builds (builderOf 0x93) _ from ⟨rfl, rfl⟩⟩
theorem Encoded.tya : Encoded.Statement .tya :=
  ⟨show descOf 0x98 = _ from rfl, rfl, show Builds (builderOf 0x98) _ from ⟨rfl, rfl⟩⟩
theorem Encoded.txs : Encoded.Statement .txs :=
  ⟨show descOf 0x9A = _ from rfl, rfl, show Builds (builderOf 0x9A) _ from ⟨rfl, rfl⟩⟩
theorem Encoded.undef9B : Encoded.Statement .undef9B :=
  ⟨show descOf 0x9B = _ from rfl, rfl, show Builds (builderOf 0x9B) _ from ⟨rfl, rfl⟩⟩
theorem Encoded.undef9C : Encoded.Statement .undef9C :=
  ⟨show descOf 0x9C = _ from rfl, rfl, show Builds (builderOf 0x9C) _ from ⟨rfl, rfl⟩⟩
theorem Encoded.undef9E : Encoded.Statement .undef9E :=
  ⟨show descOf 0x9E = _ from rfl, rfl, show Builds (builderOf 0x9E) _ from ⟨rfl, rfl⟩⟩
theorem Encoded.undef9F : Encoded.Statement .undef9F :=
  ⟨show descOf 0x9F = _ from rfl, rfl, show Builds (builderOf 0x9F) _ from ⟨rfl, rfl⟩⟩
theorem Encoded.tay : Encoded.Statement .tay :=
  ⟨show descOf 0xA8 = _ from rfl, rfl, show Builds (builderOf 0xA8) _ from ⟨rfl, rfl⟩⟩
theorem Encoded.tax : Encoded.Statement .tax :=
  ⟨show descOf 0xAA = _ from rfl, rfl, show Builds (builderOf 0xAA) _ from ⟨rfl, rfl⟩⟩
theorem Encoded.undefAB : Encoded.Statement .undefAB :=
  ⟨show descOf 0xAB = _ from rfl, rfl, show Builds (builderOf 0xAB) _ from ⟨rfl, rfl⟩⟩
theorem Encoded.undefB2 : Encoded.Statement .undefB2 :=
  ⟨show descOf 0xB2 = _ from rfl, rfl, show Builds (builderOf 0xB2) _ from ⟨rfl, rfl⟩⟩
theorem Encoded.clv : Encoded.Statement .clv :=
  ⟨show descOf 0xB8 = _ from rfl, rfl, show Builds (builderOf 0xB8) _ from ⟨rfl, rfl⟩⟩
theorem Encoded.tsx : Encoded.Statement .tsx :=
  ⟨show descOf 0xBA = _ from rfl, rfl, show Builds (builderOf 0xBA) _ from ⟨rfl, rfl⟩⟩
theorem Encoded.undefBB : Encoded.Statement .undefBB :=
  ⟨show descOf 0xBB = _ from rfl, rfl, show Builds (builderOf 0xBB) _ from ⟨rfl, rfl⟩⟩
theorem Encoded.undefC2 : Encoded.Statement .undefC2 :=
  ⟨show descOf 0xC2 = _ from rfl, rfl, show Builds (builderOf 0xC2) _ from ⟨rfl, rfl⟩⟩
theorem Encoded.iny : Encoded.Statement .iny :=
  ⟨show descOf 0xC8 = _ from rfl, rfl, show Builds (builderOf 0xC8) _ from ⟨rfl, rfl⟩⟩
theorem Encoded.dex : Encoded.Statement .dex :=
  ⟨show descOf 0xCA = _ from rfl, rfl, show Builds (builderOf 0xCA) _ from ⟨rfl, rfl⟩⟩
theorem Encoded.undefCB : Encoded.Statement .undefCB :=
  ⟨show descOf 0xCB = _ from rfl, rfl, show Builds (builderOf 0xCB) _ from ⟨rfl, rfl⟩⟩
theorem Encoded.undefD2 : Encoded.Statement .undefD2 :=
  ⟨show descOf 0xD2 = _ from rfl, rfl, show Builds (builderOf 0xD2) _ from ⟨rfl, rfl⟩⟩
theorem Encoded.cld : Encoded.Statement .cld :=
  ⟨show descOf 0xD8 = _ from rfl, rfl, show Builds (builderOf 0xD8) _ from ⟨rfl, rfl⟩⟩
theorem Encoded.nopDA : Encoded.Statement .nopDA :=
  ⟨show descOf 0xDA = _ from rfl, rfl, show Builds (builderOf 0xDA) _ from ⟨rfl, rfl⟩⟩
theorem Encoded.undefE2 : Encoded.Statement .undefE2 :=
  ⟨show descOf 0xE2 = _ from rfl, rfl, show Builds (builderOf 0xE2) _ from ⟨rfl, rfl⟩⟩
theorem Encoded.inx : Encoded.Statement .inx :=
  ⟨show descOf 0xE8 = _ from rfl, rfl, show Builds (builderOf 0xE8) _ from ⟨rfl, rfl⟩⟩
theorem Encoded.nop : Encoded.Statement .nop :=
  ⟨show descOf 0xEA = _ from rfl, rfl, show Builds (builderOf 0xEA) _ from ⟨rfl, rfl⟩⟩
theorem Encoded.undefF2 : Encoded.Statement .undefF2 :=
  ⟨show descOf 0xF2 = _ from rfl, rfl, show Builds (builderOf 0xF2) _ from ⟨rfl, rfl⟩⟩
theorem Encoded.sed : Encoded.Statement .sed :=
  ⟨show descOf 0xF8 = _ from rfl, rfl, show Builds (builderOf 0xF8) _ from ⟨rfl, rfl⟩⟩
theorem Encoded.nopFA : Encoded.Statement .nopFA :=
  ⟨show descOf 0xFA = _ from rfl, rfl, show Builds (builderOf 0xFA) _ from ⟨rfl, rfl⟩⟩

/-- What a cell builds has the opcode value of the cell, one descriptor for all operands, and the operand bytes given. -/
def CellOf (op : Byte) (c : Builder) : Prop :=
  ∀ b1 b2, (c.instr b1 b2).opcode = op ∧ (c.instr b1 b2).desc = (c.instr 0 0).desc ∧
    (c.instr b1 b2).addrMode.bytes =
      match c with
      | .bare _ => []
      | .byte _ => [b1]
      | .word _ => [lo8 (wordOf b2 b1), hi8 (wordOf b2 b1)]

/-- The cells of a list are those of the opcode values from `n` on. -/
def CellsFrom : Nat → List Builder → Prop
  | _, [] => True
  | n, c :: r => CellOf (BitVec.ofNat 8 n) c ∧ CellsFrom (n + 1) r

theorem CellsFrom.get {n : Nat} {cs : List Builder} (h : CellsFrom n cs) {k : Nat} (hk : k < cs.length) :
    CellOf (BitVec.ofNat 8 (n + k)) cs[k] := by
  induction cs generalizing n k with
  | nil => simp at hk
  | cons c r ih =>
    cases k with
    | zero => exact h.1
    | succ k =>
      have := ih h.2 (k := k) (by simpa using hk)
      rwa [Nat.add_assoc, Nat.add_comm 1 k] at this

theorem gridRow0_cells : CellsFrom 0x00 gridRow0 :=
  ⟨fun _ _ => ⟨rfl, rfl, rfl⟩, fun _ _ => ⟨rfl, rfl, rfl⟩, fun _ _ => ⟨rfl, rfl, rfl⟩, fun _ _ => ⟨rfl, rfl, rfl⟩,
    fun _ _ => ⟨rfl, rfl, rfl⟩, fun _ _ => ⟨rfl, rfl, rfl⟩, fun _ _ => ⟨rfl, rfl, rfl⟩, fun _ _ => ⟨rfl, rfl, rfl⟩,
    fun _ _ => ⟨rfl, rfl, rfl⟩, fun _ _ => ⟨rfl, rfl, rfl⟩, fun _ _ => ⟨rfl, rfl, rfl⟩, fun _ _ => ⟨rfl, rfl, rfl⟩,
    fun _ _ => ⟨rfl, rfl, rfl⟩, fun _ _ => ⟨rfl, rfl, rfl⟩, fun _ _ => ⟨rfl, rfl, rfl⟩, fun _ _ => ⟨rfl, rfl, rfl⟩, trivial⟩
theorem gridRow1_cells : CellsFrom 0x10 gridRow1 :=
  ⟨fun _ _ => ⟨rfl, rfl, rfl⟩, fun _ _ => ⟨rfl, rfl, rfl⟩, fun _ _ => ⟨rfl, rfl, rfl⟩, fun _ _ => ⟨rfl, rfl, rfl⟩,
    fun _ _ => ⟨rfl, rfl, rfl⟩, fun _ _ => ⟨rfl, rfl, rfl⟩, fun _ _ => ⟨rfl, rfl, rfl⟩, fun _ _ => ⟨rfl, rfl, rfl⟩,
    fun _ _ => ⟨rfl, rfl, rfl⟩, fun _ _ => ⟨rfl, rfl, rfl⟩, fun _ _ => ⟨rfl, rfl, rfl⟩, fun _ _ => ⟨rfl, rfl, rfl⟩,
    fun _ _ => ⟨rfl, rfl, rfl⟩, fun _ _ => ⟨rfl, rfl, rfl⟩, fun _ _ => ⟨rfl, rfl, rfl⟩, fun _ _ => ⟨rfl, rfl, rfl⟩, trivial⟩
theorem gridRow2_cells : CellsFrom 0x20 gridRow2 :=
  ⟨fun _ _ => ⟨rfl, rfl, rfl⟩, fun _ _ => ⟨rfl, rfl, rfl⟩, fun _ _ => ⟨rfl, rfl, rfl⟩, fun _ _ => ⟨rfl, rfl, rfl⟩,
    fun _ _ => ⟨rfl, rfl, rfl⟩, fun _ _ => ⟨rfl, rfl, rfl⟩, fun _ _ => ⟨rfl, rfl, rfl⟩, fun _ _ => ⟨rfl, rfl, rfl⟩,
    fun _ _ => ⟨rfl, rfl, rfl⟩, fun _ _ => ⟨rfl, rfl, rfl⟩, fun _ _ => ⟨rfl, rfl, rfl⟩, fun _ _ => ⟨rfl, rfl, rfl⟩,
    fun _ _ => ⟨rfl, rfl, rfl⟩, fun _ _ => ⟨rfl, rfl, rfl⟩, fun _ _ => ⟨rfl, rfl, rfl⟩, fun _ _ => ⟨rfl, rfl, rfl⟩, trivial⟩
theorem gridRow3_cells : CellsFrom 0x30 gridRow3 :=
  ⟨fun _ _ => ⟨rfl, rfl, rfl⟩, fun _ _ => ⟨rfl, rfl, rfl⟩, fun _ _ => ⟨rfl, rfl, rfl⟩, fun _ _ => ⟨rfl, rfl, rfl⟩,
    fun _ _ => ⟨rfl, rfl, rfl⟩, fun _ _ => ⟨rfl, rfl, rfl⟩, fun _ _ => ⟨rfl, rfl, rfl⟩, fun _ _ => ⟨rfl, rfl, rfl⟩,
    fun _ _ => ⟨rfl, rfl, rfl⟩, fun _ _ => ⟨rfl, rfl, rfl⟩, fun _ _ => ⟨rfl, rfl, rfl⟩, fun _ _ => ⟨rfl, rfl, rfl⟩,
    fun _ _ => ⟨rfl, rfl, rfl⟩, fun _ _ => ⟨rfl, rfl, rfl⟩, fun _ _ => ⟨rfl, rfl, rfl⟩, fun _ _ => ⟨rfl, rfl, rfl⟩, trivial⟩
theorem gridRow4_cells : CellsFrom 0x40 gridRow4 :=
  ⟨fun _ _ => ⟨rfl, rfl, rfl⟩, fun _ _ => ⟨rfl, rfl, rfl⟩, fun _ _ => ⟨rfl, rfl, rfl⟩, fun _ _ => ⟨rfl, rfl, rfl⟩,
    fun _ _ => ⟨rfl, rfl, rfl⟩, fun _ _ => ⟨rfl, rfl, rfl⟩, fun _ _ => ⟨rfl, rfl, rfl⟩, fun _ _ => ⟨rfl, rfl, rfl⟩,
    fun _ _ => ⟨rfl, rfl, rfl⟩, fun _ _ => ⟨rfl, rfl, rfl⟩, fun _ _ => ⟨rfl, rfl, rfl⟩, fun _ _ => ⟨rfl, rfl, rfl⟩,
    fun _ _ => ⟨rfl, rfl, rfl⟩, fun _ _ => ⟨rfl, rfl, rfl⟩, fun _ _ => ⟨rfl, rfl, rfl⟩, fun _ _ => ⟨rfl, rfl, rfl⟩, trivial⟩
theorem gridRow5_cells : CellsFrom 0x50 gridRow5 :=
  ⟨fun _ _ => ⟨rfl, rfl, rfl⟩, fun _ _ => ⟨rfl, rfl, rfl⟩, fun _ _ => ⟨rfl, rfl, rfl⟩, fun _ _ => ⟨rfl, rfl, rfl⟩,
    fun _ _ => ⟨rfl, rfl, rfl⟩, fun _ _ => ⟨rfl, rfl, rfl⟩, fun _ _ => ⟨rfl, rfl, rfl⟩, fun _ _ => ⟨rfl, rfl, rfl⟩,
    fun _ _ => ⟨rfl, rfl, rfl⟩, fun _ _ => ⟨rfl, rfl, rfl⟩, fun _ _ => ⟨rfl, rfl, rfl⟩, fun _ _ => ⟨rfl, rfl, rfl⟩,
    fun _ _ => ⟨rfl, rfl, rfl⟩, fun _ _ => ⟨rfl, rfl, rfl⟩, fun _ _ => ⟨rfl, rfl, rfl⟩, fun _ _ => ⟨rfl, rfl, rfl⟩, trivial⟩
theorem gridRow6_cells : CellsFrom 0x60 gridRow6 :=
  ⟨fun _ _ => ⟨rfl, rfl, rfl⟩, fun _ _ => ⟨rfl, rfl, rfl⟩, fun _ _ => ⟨rfl, rfl, rfl⟩, fun _ _ => ⟨rfl, rfl, rfl⟩,
    fun _ _ => ⟨rfl, rfl, rfl⟩, fun _ _ => ⟨rfl, rfl, rfl⟩, fun _ _ => ⟨rfl, rfl, rfl⟩, fun _ _ => ⟨rfl, rfl, rfl⟩,
    fun _ _ => ⟨rfl, rfl, rfl⟩, fun _ _ => ⟨rfl, rfl, rfl⟩, fun _ _ => ⟨rfl, rfl, rfl⟩, fun _ _ => ⟨rfl, rfl, rfl⟩,
    fun _ _ => ⟨rfl, rfl, rfl⟩, fun _ _ => ⟨rfl, rfl, rfl⟩, fun _ _ => ⟨rfl, rfl, rfl⟩, fun _ _ => ⟨rfl, rfl, rfl⟩, trivial⟩
theorem gridRow7_cells : CellsFrom 0x70 gridRow7 :=
  ⟨fun _ _ => ⟨rfl, rfl, rfl⟩, fun _ _ => ⟨rfl, rfl, rfl⟩, fun _ _ => ⟨rfl, rfl, rfl⟩, fun _ _ => ⟨rfl, rfl, rfl⟩,
    fun _ _ => ⟨rfl, rfl, rfl⟩, fun _ _ => ⟨rfl, rfl, rfl⟩, fun _ _ => ⟨rfl, rfl, rfl⟩, fun _ _ => ⟨rfl, rfl, rfl⟩,
    fun _ _ => ⟨rfl, rfl, rfl⟩, fun _ _ => ⟨rfl, rfl, rfl⟩, fun _ _ => ⟨rfl, rfl, rfl⟩, fun _ _ => ⟨rfl, rfl, rfl⟩,
    fun _ _ => ⟨rfl, rfl, rfl⟩, fun _ _ => ⟨rfl, rfl, rfl⟩, fun _ _ => ⟨rfl, rfl, rfl⟩, fun _ _ => ⟨rfl, rfl, rfl⟩, trivial⟩
theorem gridRow8_cells : CellsFrom 0x80 gridRow8 :=
  ⟨fun _ _ => ⟨rfl, rfl, rfl⟩, fun _ _ => ⟨rfl, rfl, rfl⟩, fun _ _ => ⟨rfl, rfl, rfl⟩, fun _ _ => ⟨rfl, rfl, rfl⟩,
    fun _ _ => ⟨rfl, rfl, rfl⟩, fun _ _ => ⟨rfl, rfl, rfl⟩, fun _ _ => ⟨rfl, rfl, rfl⟩, fun _ _ => ⟨rfl, rfl, rfl⟩,
    fun _ _ => ⟨rfl, rfl, rfl⟩, fun _ _ => ⟨rfl, rfl, rfl⟩, fun _ _ => ⟨rfl, rfl, rfl⟩, fun _ _ => ⟨rfl, rfl, rfl⟩,
    fun _ _ => ⟨rfl, rfl, rfl⟩, fun _ _ => ⟨rfl, rfl, rfl⟩, fun _ _ => ⟨rfl, rfl, rfl⟩, fun _ _ => ⟨rfl, rfl, rfl⟩, trivial⟩
theorem gridRow9_cells : CellsFrom 0x90 gridRow9 :=
  ⟨fun _ _ => ⟨rfl, rfl, rfl⟩, fun _ _ => ⟨rfl, rfl, rfl⟩, fun _ _ => ⟨rfl, rfl, rfl⟩, fun _ _ => ⟨rfl, rfl, rfl⟩,
    fun _ _ => ⟨rfl, rfl, rfl⟩, fun _ _ => ⟨rfl, rfl, rfl⟩, fun _ _ => ⟨rfl, rfl, rfl⟩, fun _ _ => ⟨rfl, rfl, rfl⟩,
    fun _ _ => ⟨rfl, rfl, rfl⟩, fun _ _ => ⟨rfl, rfl, rfl⟩, fun _ _ => ⟨rfl, rfl, rfl⟩, fun _ _ => ⟨rfl, rfl, rfl⟩,
    fun _ _ => ⟨rfl, rfl, rfl⟩, fun _ _ => ⟨rfl, rfl, rfl⟩, fun _ _ => ⟨rfl, rfl, rfl⟩, fun _ _ => ⟨rfl, rfl, rfl⟩, trivial⟩
theorem gridRowA_cells : CellsFrom 0xA0 gridRowA :=
  ⟨fun _ _ => ⟨rfl, rfl, rfl⟩, fun _ _ => ⟨rfl, rfl, rfl⟩, fun _ _ => ⟨rfl, rfl, rfl⟩, fun _ _ => ⟨rfl, rfl, rfl⟩,
    fun _ _ => ⟨rfl, rfl, rfl⟩, fun _ _ => ⟨rfl, rfl, rfl⟩, fun _ _ => ⟨rfl, rfl, rfl⟩, fun _ _ => ⟨rfl, rfl, rfl⟩,
    fun _ _ => ⟨rfl, rfl, rfl⟩, fun _ _ => ⟨rfl, rfl, rfl⟩, fun _ _ => ⟨rfl, rfl, rfl⟩, fun _ _ => ⟨rfl, rfl, rfl⟩,
    fun _ _ => ⟨rfl, rfl, rfl⟩, fun _ _ => ⟨rfl, rfl, rfl⟩, fun _ _ => ⟨rfl, rfl, rfl⟩, fun _ _ => ⟨rfl, rfl, rfl⟩, trivial⟩
theorem gridRowB_cells : CellsFrom 0xB0 gridRowB :=
  ⟨fun _ _ => ⟨rfl, rfl, rfl⟩, fun _ _ => ⟨rfl, rfl, rfl⟩, fun _ _ => ⟨rfl, rfl, rfl⟩, fun _ _ => ⟨rfl, rfl, rfl⟩,
    fun _ _ => ⟨rfl, rfl, rfl⟩, fun _ _ => ⟨rfl, rfl, rfl⟩, fun _ _ => ⟨rfl, rfl, rfl⟩, fun _ _ => ⟨rfl, rfl, rfl⟩,
    fun _ _ => ⟨rfl, rfl, rfl⟩, fun _ _ => ⟨rfl, rfl, rfl⟩, fun _ _ => ⟨rfl, rfl, rfl⟩, fun _ _ => ⟨rfl, rfl, rfl⟩,
    fun _ _ => ⟨rfl, rfl, rfl⟩, fun _ _ => ⟨rfl, rfl, rfl⟩, fun _ _ => ⟨rfl, rfl, rfl⟩, fun _ _ => ⟨rfl, rfl, rfl⟩, trivial⟩
theorem gridRowC_cells : CellsFrom 0xC0 gridRowC :=
  ⟨fun _ _ => ⟨rfl, rfl, rfl⟩, fun _ _ => ⟨rfl, rfl, rfl⟩, fun _ _ => ⟨rfl, rfl, rfl⟩, fun _ _ => ⟨rfl, rfl, rfl⟩,
    fun _ _ => ⟨rfl, rfl, rfl⟩, fun _ _ => ⟨rfl, rfl, rfl⟩, fun _ _ => ⟨rfl, rfl, rfl⟩, fun _ _ => ⟨rfl, rfl, rfl⟩,
    fun _ _ => ⟨rfl, rfl, rfl⟩, fun _ _ => ⟨rfl, rfl, rfl⟩, fun _ _ => ⟨rfl, rfl, rfl⟩, fun _ _ => ⟨rfl, rfl, rfl⟩,
    fun _ _ => ⟨rfl, rfl, rfl⟩, fun _ _ => ⟨rfl, rfl, rfl⟩, fun _ _ => ⟨rfl, rfl, rfl⟩, fun _ _ => ⟨rfl, rfl, rfl⟩, trivial⟩
theorem gridRowD_cells : CellsFrom 0xD0 gridRowD :=
  ⟨fun _ _ => ⟨rfl, rfl, rfl⟩, fun _ _ => ⟨rfl, rfl, rfl⟩, fun _ _ => ⟨rfl, rfl, rfl⟩, fun _ _ => ⟨rfl, rfl, rfl⟩,
    fun _ _ => ⟨rfl, rfl, rfl⟩, fun _ _ => ⟨rfl, rfl, rfl⟩, fun _ _ => ⟨rfl, rfl, rfl⟩, fun _ _ => ⟨rfl, rfl, rfl⟩,
    fun _ _ => ⟨rfl, rfl, rfl⟩, fun _ _ => ⟨rfl, rfl, rfl⟩, fun _ _ => ⟨rfl, rfl, rfl⟩, fun _ _ => ⟨rfl, rfl, rfl⟩,
    fun _ _ => ⟨rfl, rfl, rfl⟩, fun _ _ => ⟨rfl, rfl, rfl⟩, fun _ _ => ⟨rfl, rfl, rfl⟩, fun _ _ => ⟨rfl, rfl, rfl⟩, trivial⟩
theorem gridRowE_cells : CellsFrom 0xE0 gridRowE :=
  ⟨fun _ _ => ⟨rfl, rfl, rfl⟩, fun _ _ => ⟨rfl, rfl, rfl⟩, fun _ _ => ⟨rfl, rfl, rfl⟩, fun _ _ => ⟨rfl, rfl, rfl⟩,
    fun _ _ => ⟨rfl, rfl, rfl⟩, fun _ _ => ⟨rfl, rfl, rfl⟩, fun _ _ => ⟨rfl, rfl, rfl⟩, fun _ _ => ⟨rfl, rfl, rfl⟩,
    fun _ _ => ⟨rfl, rfl, rfl⟩, fun _ _ => ⟨rfl, rfl, rfl⟩, fun _ _ => ⟨rfl, rfl, rfl⟩, fun _ _ => ⟨rfl, rfl, rfl⟩,
    fun _ _ => ⟨rfl, rfl, rfl⟩, fun _ _ => ⟨rfl, rfl, rfl⟩, fun _ _ => ⟨rfl, rfl, rfl⟩, fun _ _ => ⟨rfl, rfl, rfl⟩, trivial⟩
theorem gridRowF_cells : CellsFrom 0xF0 gridRowF :=
  ⟨fun _ _ => ⟨rfl, rfl, rfl⟩, fun _ _ => ⟨rfl, rfl, rfl⟩, fun _ _ => ⟨rfl, rfl, rfl⟩, fun _ _ => ⟨rfl, rfl, rfl⟩,
    fun _ _ => ⟨rfl, rfl, rfl⟩, fun _ _ => ⟨rfl, rfl, rfl⟩, fun _ _ => ⟨rfl, rfl, rfl⟩, fun _ _ => ⟨rfl, rfl, rfl⟩,
    fun _ _ => ⟨rfl, rfl, rfl⟩, fun _ _ => ⟨rfl, rfl, rfl⟩, fun _ _ => ⟨rfl, rfl, rfl⟩, fun _ _ => ⟨rfl, rfl, rfl⟩,
    fun _ _ => ⟨rfl, rfl, rfl⟩, fun _ _ => ⟨rfl, rfl, rfl⟩, fun _ _ => ⟨rfl, rfl, rfl⟩, fun _ _ => ⟨rfl, rfl, rfl⟩, trivial⟩

theorem grid_cells : ∀ (r : Nat) (h : r < grid.length), CellsFrom (16 * r) grid[r]
  | 0, _ => gridRow0_cells
  | 1, _ => gridRow1_cells
  | 2, _ => gridRow2_cells
  | 3, _ => gridRow3_cells
  | 4, _ => gridRow4_cells
  | 5, _ => gridRow5_cells
  | 6, _ => gridRow6_cells
  | 7, _ => gridRow7_cells
  | 8, _ => gridRow8_cells
  | 9, _ => gridRow9_cells
  | 10, _ => gridRowA_cells
  | 11, _ => gridRowB_cells
  | 12, _ => gridRowC_cells
  | 13, _ => gridRowD_cells
  | 14, _ => gridRowE_cells
  | 15, _ => gridRowF_cells
  | n + 16, h => by
    rw [grid_length] at h
    omega

/-- Every opcode value's cell builds what has that opcode value (R97, R99). -/
theorem builderOf_cell (op : Byte) : CellOf op (builderOf op) := by
  have row : CellsFrom (16 * (op.toNat / 16)) (gridRowOf op) := grid_cells _ _
  have hlen : op.toNat % 16 < (gridRowOf op).length := by
    rw [gridRowOf_length]
    omega
  have := row.get hlen
  rw [Nat.div_add_mod] at this
  simpa [builderOf] using this

end Sys2Proof.Laws
end

