-- ==== Sys2Proof/Laws/Step.lean ====
section
/-!
SUPPORT. What a step can do, said once: the state it answers, and that it keeps every property that its updates keep.
-/

namespace Sys2Proof.Machine

/-- The bytes at a cell are read without any change (R52, R58, R59). -/
theorem busRead_of_storable {a : Word} (h : storable a = true) (s : State) : busRead a s = (s.peek a, s) := by
  apply busRead_eq_peek
  unfold storable at h
  cases ht : busTarget a <;> rw [ht] at h <;> simp_all

/-- The fetch reads one byte for the opcode and one for each operand byte that the cell takes (R121, R78). -/
theorem fetchInstr_eq (s : State) :
    fetchInstr s =
      (let op := busRead s.pc s
       let b1 := busRead (s.pc + 1) op.2
       let b2 := busRead (s.pc + 2) b1.2
       match (builderOf op.1).reads with
       | 0 => (decodeOp op.1 0 0, op.2)
       | 1 => (decodeOp op.1 b1.1 0, b1.2)
       | _ => (decodeOp op.1 b1.1 b2.1, b2.2)) := by
  unfold fetchInstr decodeOp
  dsimp only
  cases builderOf (busRead s.pc s).1 <;> rfl

/-- What a step that answers a state answers, and that the core was running (R120). -/
theorem step_next {s t : State} (h : step s = .next t) :
    s.run = .running ∧
      t = afterExecute (fetchInstr s).1 (actionOf (fetchInstr s).1 (fetchInstr s).2.pc) (fetchInstr s).2 := by
  unfold step at h
  split at h
  · next hr =>
    rw [exec_eq] at h
    injection h with h
    exact ⟨hr, h.symm⟩
  · cases h
  · cases h

theorem Kept.fetchInstr {P : State → Prop} {D : Prop} (k : Kept P D) {s : State} (hs : P s) :
    P (Machine.fetchInstr s).2 := by
  unfold Machine.fetchInstr
  dsimp only
  split
  · exact k.busRead _ _ hs
  · exact k.busRead _ _ (k.busRead _ _ hs)
  · exact k.busRead _ _ (k.busRead _ _ (k.busRead _ _ hs))

/-- A step keeps every property that its updates, the cycle counter's and the halt keep. -/
theorem step_keeps {P : State → Prop} (k : Kept P True) (hc : ∀ s n, P s → P (s.addCyc n))
    (hh : ∀ s, P s → P (s.setRun .halted)) {s t : State} (h : step s = .next t) (hs : P s) : P t := by
  obtain ⟨-, rfl⟩ := step_next h
  have hf := k.fetchInstr hs
  generalize (fetchInstr s).2 = f at hf
  generalize (fetchInstr s).1 = i
  have k' : Kept P (i.mnemonic = .undefined) := { k with addDiag := fun s d _ => k.addDiag s d trivial }
  have ha := actionOf_keeps i k' f.pc (resolve i.addrMode f).ea (s := beforeExecute i f)
    (hc _ _ (k.setPc _ _ (k.resolve hf _)))
  unfold afterExecute haltCheck
  dsimp only
  split
  · exact hh _ (hc _ _ ha)
  · exact hc _ _ ha

end Sys2Proof.Machine
end

