-- ==== Sys2Proof/Tests/Slice0.lean ====
section
/-!
SUPPORT. The model's own tests. The expected values are the spec's: opcode values and operand places from
spec/opcode_table.json, step vectors from spec/95_test_vectors.md (each test names its rows), and for every statement
with hypotheses a concrete state and operands that meet them.
-/

open Sys2Proof Sys2Proof.Machine Sys2Proof.Claims

namespace Sys2Proof.Tests

/-! ## Helpers -/

/-- The start state of spec/95_test_vectors.md: `P = 0x24`, RAM zero, one bank, no sentinel, `UNMAPPED_VALUE = 0x00`. -/
def base : State :=
  { State.reset with p := 0x24, cfg := { prgBanks := 1, unmappedValue := 0x00, sentinel := none, undef := [] } }

/-- The configuration of `base` with a sentinel. -/
def halting (w : Word) : Config := { base.cfg with sentinel := some w }

/-- A state with bytes placed in RAM, save storage or the program image. -/
def setCells (cells : List (Word × Byte)) (s : State) : State := cells.foldl (fun t c => placeByte c.1 c.2 t) s

/-- A state with code placed at an address, and PC there. -/
def code (pc : Word) (bytes : List Byte) (s : State) : State :=
  setCells ((List.range bytes.length).map fun k => (pc + BitVec.ofNat 16 k, bytes.getD k 0)) (s.setPc pc)

/-- What one step leaves, or nothing if the core stops. -/
def next? (s : State) : Option State :=
  match step s with
  | .next t => some t
  | .fault _ => none
  | .refused _ => none

/-- A, X, Y, P, SP, PC and CYC after one step, and the bytes at some addresses. -/
def after (s : State) (probes : List Word) : Option (List Nat) :=
  (next? s).map fun t => [t.a.toNat, t.x.toNat, t.y.toNat, t.p.toNat, t.sp.toNat, t.pc.toNat, t.cyc]
    ++ probes.map fun a => (t.peek a).toNat

def eventsAfter (s : State) : Option (List Event) := (next? s).map (·.events)
def diagAfter (s : State) : Option (List Diagnostic) := (next? s).map (·.diag)
def runAfter (s : State) : Option RunStatus := (next? s).map (·.run)
/-- Entry `k` of the audio bank after one step. -/
def audioAfter (k : Nat) (s : State) : Option Byte := (next? s).map fun t => Memory.read t.apu k

/-- The instruction that each of some words decodes to, when the word is all of it. -/
def decodeAll (words : List (List Byte)) : List Instr :=
  words.filterMap fun w =>
    match decode w with
    | .ok (i, []) => some i
    | .ok (_, _ :: _) => none
    | .error _ => none

/-! ## Well-formedness: the checks refuse what is ill formed (D36, R103) -/

theorem test_wf_accepts : base.cfg.valid = true ∧ Instr.wf .nop = true := by decide
theorem test_wf_refuses_no_bank : Config.valid { base.cfg with prgBanks := 0 } = false := by decide
theorem test_wf_refuses_length_zero : Config.valid { base.cfg with undef := [⟨0x02, 0, 2⟩] } = false := by decide
theorem test_wf_refuses_length_four : Config.valid { base.cfg with undef := [⟨0x02, 4, 2⟩] } = false := by decide
theorem test_wf_refuses_no_cycles : Config.valid { base.cfg with undef := [⟨0x02, 1, 0⟩] } = false := by decide
/-- A listed zero, a repeated index, a falling index and an index past the end are not canonical. -/
theorem test_wf_refuses_memory : Memory.wf 4 [(1, 0)] = false ∧ Memory.wf 4 [(1, 5), (1, 6)] = false
    ∧ Memory.wf 4 [(2, 5), (1, 6)] = false ∧ Memory.wf 4 [(4, 5)] = false ∧ Memory.wf 4 [(1, 5), (3, 6)] = true := by decide
/-- A launch whose image is larger than its banks is refused. -/
theorem test_wf_refuses_launch : Launch.valid { Launch.blank with prg := [(0x4000, 1)] } = false
    ∧ Launch.valid { Launch.blank with ram := [(0x800, 1)] } = false := by decide

/-! ## Decoding: every opcode value, from the table's encodings, with operand bytes 0x34 and 0x12 -/

theorem test_decode_row_0 :
    decodeAll [[0x00], [0x01, 0x34], [0x02], [0x03, 0x34], [0x04, 0x34], [0x05, 0x34],
      [0x06, 0x34], [0x07, 0x34], [0x08], [0x09, 0x34], [0x0A], [0x0B, 0x34],
      [0x0C, 0x34, 0x12], [0x0D, 0x34, 0x12], [0x0E, 0x34, 0x12], [0x0F, 0x34, 0x12]] =
    [.brk, .oraIndX 0x34, .undef02, .sloIndX 0x34, .nopZp04 0x34, .oraZp 0x34,
      .aslZp 0x34, .sloZp 0x34, .php, .oraImm 0x34, .aslAcc, .undef0B,
      .nopAbs0C 0x1234, .oraAbs 0x1234, .aslAbs 0x1234, .sloAbs 0x1234] := by decide

theorem test_decode_row_1 :
    decodeAll [[0x10, 0x34], [0x11, 0x34], [0x12], [0x13, 0x34], [0x14, 0x34], [0x15, 0x34],
      [0x16, 0x34], [0x17, 0x34], [0x18], [0x19, 0x34, 0x12], [0x1A], [0x1B, 0x34, 0x12],
      [0x1C, 0x34, 0x12], [0x1D, 0x34, 0x12], [0x1E, 0x34, 0x12], [0x1F, 0x34, 0x12]] =
    [.bpl 0x34, .oraIndY 0x34, .undef12, .sloIndY 0x34, .nopZpX14 0x34, .oraZpX 0x34,
      .aslZpX 0x34, .sloZpX 0x34, .clc, .oraAbsY 0x1234, .nop1A, .sloAbsY 0x1234,
      .nopAbsX1C 0x1234, .oraAbsX 0x1234, .aslAbsX 0x1234, .sloAbsX 0x1234] := by decide

theorem test_decode_row_2 :
    decodeAll [[0x20, 0x34, 0x12], [0x21, 0x34], [0x22], [0x23, 0x34], [0x24, 0x34], [0x25, 0x34],
      [0x26, 0x34], [0x27, 0x34], [0x28], [0x29, 0x34], [0x2A], [0x2B, 0x34],
      [0x2C, 0x34, 0x12], [0x2D, 0x34, 0x12], [0x2E, 0x34, 0x12], [0x2F, 0x34, 0x12]] =
    [.jsrAbs 0x1234, .andIndX 0x34, .undef22, .rlaIndX 0x34, .bitZp 0x34, .andZp 0x34,
      .rolZp 0x34, .rlaZp 0x34, .plp, .andImm 0x34, .rolAcc, .undef2B,
      .bitAbs 0x1234, .andAbs 0x1234, .rolAbs 0x1234, .rlaAbs 0x1234] := by decide

theorem test_decode_row_3 :
    decodeAll [[0x30, 0x34], [0x31, 0x34], [0x32], [0x33, 0x34], [0x34, 0x34], [0x35, 0x34],
      [0x36, 0x34], [0x37, 0x34], [0x38], [0x39, 0x34, 0x12], [0x3A], [0x3B, 0x34, 0x12],
      [0x3C, 0x34, 0x12], [0x3D, 0x34, 0x12], [0x3E, 0x34, 0x12], [0x3F, 0x34, 0x12]] =
    [.bmi 0x34, .andIndY 0x34, .undef32, .rlaIndY 0x34, .nopZpX34 0x34, .andZpX 0x34,
      .rolZpX 0x34, .rlaZpX 0x34, .sec, .andAbsY 0x1234, .nop3A, .rlaAbsY 0x1234,
      .nopAbsX3C 0x1234, .andAbsX 0x1234, .rolAbsX 0x1234, .rlaAbsX 0x1234] := by decide

theorem test_decode_row_4 :
    decodeAll [[0x40], [0x41, 0x34], [0x42], [0x43, 0x34], [0x44, 0x34], [0x45, 0x34],
      [0x46, 0x34], [0x47, 0x34], [0x48], [0x49, 0x34], [0x4A], [0x4B, 0x34],
      [0x4C, 0x34, 0x12], [0x4D, 0x34, 0x12], [0x4E, 0x34, 0x12], [0x4F, 0x34, 0x12]] =
    [.rti, .eorIndX 0x34, .undef42, .sreIndX 0x34, .nopZp44 0x34, .eorZp 0x34,
      .lsrZp 0x34, .sreZp 0x34, .pha, .eorImm 0x34, .lsrAcc, .undef4B,
      .jmpAbs 0x1234, .eorAbs 0x1234, .lsrAbs 0x1234, .sreAbs 0x1234] := by decide

theorem test_decode_row_5 :
    decodeAll [[0x50, 0x34], [0x51, 0x34], [0x52], [0x53, 0x34], [0x54, 0x34], [0x55, 0x34],
      [0x56, 0x34], [0x57, 0x34], [0x58], [0x59, 0x34, 0x12], [0x5A], [0x5B, 0x34, 0x12],
      [0x5C, 0x34, 0x12], [0x5D, 0x34, 0x12], [0x5E, 0x34, 0x12], [0x5F, 0x34, 0x12]] =
    [.bvc 0x34, .eorIndY 0x34, .undef52, .sreIndY 0x34, .nopZpX54 0x34, .eorZpX 0x34,
      .lsrZpX 0x34, .sreZpX 0x34, .cli, .eorAbsY 0x1234, .nop5A, .sreAbsY 0x1234,
      .nopAbsX5C 0x1234, .eorAbsX 0x1234, .lsrAbsX 0x1234, .sreAbsX 0x1234] := by decide

theorem test_decode_row_6 :
    decodeAll [[0x60], [0x61, 0x34], [0x62], [0x63, 0x34], [0x64, 0x34], [0x65, 0x34],
      [0x66, 0x34], [0x67, 0x34], [0x68], [0x69, 0x34], [0x6A], [0x6B, 0x34],
      [0x6C, 0x34, 0x12], [0x6D, 0x34, 0x12], [0x6E, 0x34, 0x12], [0x6F, 0x34, 0x12]] =
    [.rts, .adcIndX 0x34, .undef62, .rraIndX 0x34, .nopZp64 0x34, .adcZp 0x34,
      .rorZp 0x34, .rraZp 0x34, .pla, .adcImm 0x34, .rorAcc, .undef6B,
      .jmpInd 0x1234, .adcAbs 0x1234, .rorAbs 0x1234, .rraAbs 0x1234] := by decide

theorem test_decode_row_7 :
    decodeAll [[0x70, 0x34], [0x71, 0x34], [0x72], [0x73, 0x34], [0x74, 0x34], [0x75, 0x34],
      [0x76, 0x34], [0x77, 0x34], [0x78], [0x79, 0x34, 0x12], [0x7A], [0x7B, 0x34, 0x12],
      [0x7C, 0x34, 0x12], [0x7D, 0x34, 0x12], [0x7E, 0x34, 0x12], [0x7F, 0x34, 0x12]] =
    [.bvs 0x34, .adcIndY 0x34, .undef72, .rraIndY 0x34, .nopZpX74 0x34, .adcZpX 0x34,
      .rorZpX 0x34, .rraZpX 0x34, .sei, .adcAbsY 0x1234, .nop7A, .rraAbsY 0x1234,
      .nopAbsX7C 0x1234, .adcAbsX 0x1234, .rorAbsX 0x1234, .rraAbsX 0x1234] := by decide

theorem test_decode_row_8 :
    decodeAll [[0x80, 0x34], [0x81, 0x34], [0x82, 0x34], [0x83, 0x34], [0x84, 0x34], [0x85, 0x34],
      [0x86, 0x34], [0x87, 0x34], [0x88], [0x89, 0x34], [0x8A], [0x8B, 0x34],
      [0x8C, 0x34, 0x12], [0x8D, 0x34, 0x12], [0x8E, 0x34, 0x12], [0x8F, 0x34, 0x12]] =
    [.nopImm80, .staIndX 0x34, .undef82, .saxIndX 0x34, .styZp 0x34, .staZp 0x34,
      .stxZp 0x34, .saxZp 0x34, .dey, .undef89, .txa, .undef8B,
      .styAbs 0x1234, .staAbs 0x1234, .stxAbs 0x1234, .saxAbs 0x1234] := by decide

theorem test_decode_row_9 :
    decodeAll [[0x90, 0x34], [0x91, 0x34], [0x92], [0x93, 0x34], [0x94, 0x34], [0x95, 0x34],
      [0x96, 0x34], [0x97, 0x34], [0x98], [0x99, 0x34, 0x12], [0x9A], [0x9B, 0x34, 0x12],
      [0x9C, 0x34, 0x12], [0x9D, 0x34, 0x12], [0x9E, 0x34, 0x12], [0x9F, 0x34, 0x12]] =
    [.bcc 0x34, .staIndY 0x34, .undef92, .undef93, .styZpX 0x34, .staZpX 0x34,
      .stxZpY 0x34, .saxZpY 0x34, .tya, .staAbsY 0x1234, .txs, .undef9B,
      .undef9C, .staAbsX 0x1234, .undef9E, .undef9F] := by decide

theorem test_decode_row_A :
    decodeAll [[0xA0, 0x34], [0xA1, 0x34], [0xA2, 0x34], [0xA3, 0x34], [0xA4, 0x34], [0xA5, 0x34],
      [0xA6, 0x34], [0xA7, 0x34], [0xA8], [0xA9, 0x34], [0xAA], [0xAB, 0x34],
      [0xAC, 0x34, 0x12], [0xAD, 0x34, 0x12], [0xAE, 0x34, 0x12], [0xAF, 0x34, 0x12]] =
    [.ldyImm 0x34, .ldaIndX 0x34, .ldxImm 0x34, .laxIndX 0x34, .ldyZp 0x34, .ldaZp 0x34,
      .ldxZp 0x34, .laxZp 0x34, .tay, .ldaImm 0x34, .tax, .undefAB,
      .ldyAbs 0x1234, .ldaAbs 0x1234, .ldxAbs 0x1234, .laxAbs 0x1234] := by decide

theorem test_decode_row_B :
    decodeAll [[0xB0, 0x34], [0xB1, 0x34], [0xB2], [0xB3, 0x34], [0xB4, 0x34], [0xB5, 0x34],
      [0xB6, 0x34], [0xB7, 0x34], [0xB8], [0xB9, 0x34, 0x12], [0xBA], [0xBB, 0x34, 0x12],
      [0xBC, 0x34, 0x12], [0xBD, 0x34, 0x12], [0xBE, 0x34, 0x12], [0xBF, 0x34, 0x12]] =
    [.bcs 0x34, .ldaIndY 0x34, .undefB2, .laxIndY 0x34, .ldyZpX 0x34, .ldaZpX 0x34,
      .ldxZpY 0x34, .laxZpY 0x34, .clv, .ldaAbsY 0x1234, .tsx, .undefBB,
      .ldyAbsX 0x1234, .ldaAbsX 0x1234, .ldxAbsY 0x1234, .laxAbsY 0x1234] := by decide

theorem test_decode_row_C :
    decodeAll [[0xC0, 0x34], [0xC1, 0x34], [0xC2, 0x34], [0xC3, 0x34], [0xC4, 0x34], [0xC5, 0x34],
      [0xC6, 0x34], [0xC7, 0x34], [0xC8], [0xC9, 0x34], [0xCA], [0xCB, 0x34],
      [0xCC, 0x34, 0x12], [0xCD, 0x34, 0x12], [0xCE, 0x34, 0x12], [0xCF, 0x34, 0x12]] =
    [.cpyImm 0x34, .cmpIndX 0x34, .undefC2, .dcpIndX 0x34, .cpyZp 0x34, .cmpZp 0x34,
      .decZp 0x34, .dcpZp 0x34, .iny, .cmpImm 0x34, .dex, .undefCB,
      .cpyAbs 0x1234, .cmpAbs 0x1234, .decAbs 0x1234, .dcpAbs 0x1234] := by decide

theorem test_decode_row_D :
    decodeAll [[0xD0, 0x34], [0xD1, 0x34], [0xD2], [0xD3, 0x34], [0xD4, 0x34], [0xD5, 0x34],
      [0xD6, 0x34], [0xD7, 0x34], [0xD8], [0xD9, 0x34, 0x12], [0xDA], [0xDB, 0x34, 0x12],
      [0xDC, 0x34, 0x12], [0xDD, 0x34, 0x12], [0xDE, 0x34, 0x12], [0xDF, 0x34, 0x12]] =
    [.bne 0x34, .cmpIndY 0x34, .undefD2, .dcpIndY 0x34, .nopZpXD4 0x34, .cmpZpX 0x34,
      .decZpX 0x34, .dcpZpX 0x34, .cld, .cmpAbsY 0x1234, .nopDA, .dcpAbsY 0x1234,
      .nopAbsXDC 0x1234, .cmpAbsX 0x1234, .decAbsX 0x1234, .dcpAbsX 0x1234] := by decide

theorem test_decode_row_E :
    decodeAll [[0xE0, 0x34], [0xE1, 0x34], [0xE2, 0x34], [0xE3, 0x34], [0xE4, 0x34], [0xE5, 0x34],
      [0xE6, 0x34], [0xE7, 0x34], [0xE8], [0xE9, 0x34], [0xEA], [0xEB, 0x34],
      [0xEC, 0x34, 0x12], [0xED, 0x34, 0x12], [0xEE, 0x34, 0x12], [0xEF, 0x34, 0x12]] =
    [.cpxImm 0x34, .sbcIndX 0x34, .undefE2, .isbIndX 0x34, .cpxZp 0x34, .sbcZp 0x34,
      .incZp 0x34, .isbZp 0x34, .inx, .sbcImm 0x34, .nop, .sbcImmEB 0x34,
      .cpxAbs 0x1234, .sbcAbs 0x1234, .incAbs 0x1234, .isbAbs 0x1234] := by decide

theorem test_decode_row_F :
    decodeAll [[0xF0, 0x34], [0xF1, 0x34], [0xF2], [0xF3, 0x34], [0xF4, 0x34], [0xF5, 0x34],
      [0xF6, 0x34], [0xF7, 0x34], [0xF8], [0xF9, 0x34, 0x12], [0xFA], [0xFB, 0x34, 0x12],
      [0xFC, 0x34, 0x12], [0xFD, 0x34, 0x12], [0xFE, 0x34, 0x12], [0xFF, 0x34, 0x12]] =
    [.beq 0x34, .sbcIndY 0x34, .undefF2, .isbIndY 0x34, .nopZpXF4 0x34, .sbcZpX 0x34,
      .incZpX 0x34, .isbZpX 0x34, .sed, .sbcAbsY 0x1234, .nopFA, .isbAbsY 0x1234,
      .nopAbsXFC 0x1234, .sbcAbsX 0x1234, .incAbsX 0x1234, .isbAbsX 0x1234] := by decide

/-- A list that ends inside an instruction decodes to nothing, and the bytes after one are left. -/
theorem test_decode_ends : decode [] = .error .noBytes ∧ decode [0x4C, 0x34] = .error (.truncated 0x4C)
    ∧ decode [0xA9, 0x01, 0xEA] = .ok (.ldaImm 0x01, [0xEA]) := by decide

/-- Words numbered as the table numbers them: the first byte is bits 7..0, and operand bits beyond `nbits` are 0. -/
theorem test_decodeTableWord : decodeTableWord 24 0x12347D = some (.adcAbsX 0x1234) ∧ decodeTableWord 8 0x4C = some (.jmpAbs 0)
    ∧ decodeTableWord 16 0x80A9 = some (.ldaImm 0x80) := by decide

theorem test_withFetchWord : after (State.reset.withFetchWord 16 0x42A9) [] = some [0x42, 0, 0, 0x24, 0xFD, 2, 9]
    ∧ after ((State.reset.setPc 0x2000).withFetchWord 16 0x42A9) [] = some [0x42, 0, 0, 0x24, 0xFD, 0x202, 9] := by decide

/-! ## One step, from the vectors of spec/95_test_vectors.md -/

/-- V-BUS-1, V-BUS-2. -/
theorem test_ram_is_mirrored :
    after (code 0x0200 [0xAD, 0x00, 0x08] (setCells [(0x0000, 0x5A)] base)) [] = some [0x5A, 0x00, 0x00, 0x24, 0xFD, 0x0203, 11]
    ∧ after (code 0x0200 [0x8D, 0xFF, 0x1F] { base with a := 0x77 }) [0x07FF] =
      some [0x77, 0x00, 0x00, 0x24, 0xFD, 0x0203, 11, 0x77] := by decide

/-- V-BUS-3. -/
theorem test_pixel_register_write_is_mirrored :
    after (code 0x0200 [0x8D, 0x56, 0x34] { base with a := 0x21 }) [] = some [0x21, 0x00, 0x00, 0x24, 0xFD, 0x0203, 11]
    ∧ eventsAfter (code 0x0200 [0x8D, 0x56, 0x34] { base with a := 0x21 }) = some [⟨.wr, 0x2006, 0x21⟩] := by decide

/-- V-BUS-4, V-BUS-13. -/
theorem test_audio_register_write_is_stored :
    after (code 0x0200 [0x8D, 0x00, 0x40] { base with a := 0x3F }) [] = some [0x3F, 0x00, 0x00, 0x24, 0xFD, 0x0203, 11]
    ∧ eventsAfter (code 0x0200 [0x8D, 0x00, 0x40] { base with a := 0x3F }) = some [⟨.wr, 0x4000, 0x3F⟩]
    ∧ audioAfter 0x00 (code 0x0200 [0x8D, 0x00, 0x40] { base with a := 0x3F }) = some 0x3F
    ∧ after (code 0x0200 [0x8D, 0x15, 0x40] { base with a := 0x0F }) [] = some [0x0F, 0x00, 0x00, 0x24, 0xFD, 0x0203, 11]
    ∧ eventsAfter (code 0x0200 [0x8D, 0x15, 0x40] { base with a := 0x0F }) = some [⟨.wr, 0x4015, 0x0F⟩]
    ∧ audioAfter 0x15 (code 0x0200 [0x8D, 0x15, 0x40] { base with a := 0x0F }) = some 0x0F := by decide

/-- V-BUS-5, V-BUS-6. -/
theorem test_dma_and_input_writes_are_recorded :
    after (code 0x0200 [0x8D, 0x14, 0x40] { base with a := 0x02 }) [] = some [0x02, 0x00, 0x00, 0x24, 0xFD, 0x0203, 11]
    ∧ eventsAfter (code 0x0200 [0x8D, 0x14, 0x40] { base with a := 0x02 }) = some [⟨.wr, 0x4014, 0x02⟩]
    ∧ after (code 0x0200 [0x8D, 0x16, 0x40] { base with a := 0x01 }) [] = some [0x01, 0x00, 0x00, 0x24, 0xFD, 0x0203, 11]
    ∧ eventsAfter (code 0x0200 [0x8D, 0x16, 0x40] { base with a := 0x01 }) = some [⟨.wr, 0x4016, 0x01⟩] := by decide

/-- V-BUS-7, V-BUS-14. -/
theorem test_unmapped_range_is_recorded :
    after (code 0x0200 [0xAD, 0x00, 0x50] base) [] = some [0x00, 0x00, 0x00, 0x26, 0xFD, 0x0203, 11]
    ∧ eventsAfter (code 0x0200 [0xAD, 0x00, 0x50] base) = some [⟨.rd, 0x5000, 0x00⟩]
    ∧ after (code 0x0200 [0x8D, 0x00, 0x50] { base with a := 0x01 }) [] = some [0x01, 0x00, 0x00, 0x24, 0xFD, 0x0203, 11]
    ∧ eventsAfter (code 0x0200 [0x8D, 0x00, 0x50] { base with a := 0x01 }) = some [⟨.wr, 0x5000, 0x01⟩] := by decide

/-- V-BUS-8, V-BUS-9. -/
theorem test_save_storage_is_written_and_program_storage_is_not :
    after (code 0x0200 [0x8D, 0x00, 0x60] { base with a := 0x99 }) [0x6000] =
      some [0x99, 0x00, 0x00, 0x24, 0xFD, 0x0203, 11, 0x99]
    ∧ after (code 0x0200 [0x8D, 0x00, 0x80] { base with a := 0x99 }) [] =
      some [0x99, 0x00, 0x00, 0x24, 0xFD, 0x0203, 11] := by decide

/-- V-ADR-1, V-ADR-2, V-ADR-3, V-ADR-4. -/
theorem test_zero_page_modes :
    after (code 0x0200 [0xA9, 0x42] base) [] = some [0x42, 0x00, 0x00, 0x24, 0xFD, 0x0202, 9]
    ∧ after (code 0x0200 [0xA5, 0x10] (setCells [(0x0010, 0x37)] base)) [] = some [0x37, 0x00, 0x00, 0x24, 0xFD, 0x0202, 10]
    ∧ after (code 0x0200 [0xB5, 0xFF] (setCells [(0x0001, 0x66)] { base with x := 0x02 })) [] =
      some [0x66, 0x02, 0x00, 0x24, 0xFD, 0x0202, 11]
    ∧ after (code 0x0200 [0xB6, 0xFF] (setCells [(0x0001, 0x66)] { base with y := 0x02 })) [] =
      some [0x00, 0x66, 0x02, 0x24, 0xFD, 0x0202, 11] := by decide

/-- V-ADR-5, V-ADR-6, V-ADR-7, V-ADR-8, V-ADR-9. -/
theorem test_absolute_indexed_modes :
    after (code 0x0200 [0xAD, 0x00, 0x03] (setCells [(0x0300, 0x12)] base)) [] = some [0x12, 0x00, 0x00, 0x24, 0xFD, 0x0203, 11]
    ∧ after (code 0x0200 [0xBD, 0x00, 0x03] (setCells [(0x0305, 0x44)] { base with x := 0x05 })) [] =
      some [0x44, 0x05, 0x00, 0x24, 0xFD, 0x0203, 11]
    ∧ after (code 0x0200 [0xBD, 0xF0, 0x02] (setCells [(0x0310, 0x45)] { base with x := 0x20 })) [] =
      some [0x45, 0x20, 0x00, 0x24, 0xFD, 0x0203, 12]
    ∧ after (code 0x0200 [0xBD, 0xFF, 0xFF] (setCells [(0x0000, 0x46)] { base with x := 0x01 })) [] =
      some [0x46, 0x01, 0x00, 0x24, 0xFD, 0x0203, 12]
    ∧ after (code 0x0200 [0xB9, 0xFF, 0x02] (setCells [(0x0300, 0x47)] { base with y := 0x01 })) [] =
      some [0x47, 0x00, 0x01, 0x24, 0xFD, 0x0203, 12] := by decide

/-- V-ADR-10, V-LST-4. -/
theorem test_store_takes_no_penalty :
    after (code 0x0200 [0x9D, 0xF0, 0x02] { base with a := 0x5A, x := 0x20 }) [0x0310] =
      some [0x5A, 0x20, 0x00, 0x24, 0xFD, 0x0203, 12, 0x5A]
    ∧ after (code 0x0200 [0x91, 0x40] (setCells [(0x0040, 0x00), (0x0041, 0x03)] { base with a := 0x55, y := 0x01, p := 0xA5 })) [0x0301] =
      some [0x55, 0x00, 0x01, 0xA5, 0xFD, 0x0202, 13, 0x55] := by decide

/-- V-ADR-11, V-ADR-12. -/
theorem test_indexed_indirect_mode :
    after (code 0x0200 [0xA1, 0x20] (setCells [(0x0024, 0x00), (0x0025, 0x03), (0x0300, 0x88)] { base with x := 0x04 })) [] =
      some [0x88, 0x04, 0x00, 0xA4, 0xFD, 0x0202, 13]
    ∧ after (code 0x0200 [0xA1, 0xFE] (setCells [(0x00FF, 0x00), (0x0000, 0x03), (0x0300, 0x89)] { base with x := 0x01 })) [] =
      some [0x89, 0x01, 0x00, 0xA4, 0xFD, 0x0202, 13] := by decide

/-- V-ADR-13, V-ADR-14. -/
theorem test_indirect_indexed_mode :
    after (code 0x0200 [0xB1, 0x20] (setCells [(0x0020, 0xF0), (0x0021, 0x02), (0x0310, 0x8A)] { base with y := 0x20 })) [] =
      some [0x8A, 0x00, 0x20, 0xA4, 0xFD, 0x0202, 13]
    ∧ after (code 0x0200 [0xB1, 0xFF] (setCells [(0x00FF, 0x00), (0x0000, 0x03), (0x0300, 0x8B)] base)) [] =
      some [0x8B, 0x00, 0x00, 0xA4, 0xFD, 0x0202, 12] := by decide

/-- V-ADR-15. -/
theorem test_jump_indirect_wraps_in_page :
    after (code 0x0400 [0x6C, 0xFF, 0x02] (setCells [(0x02FF, 0x34), (0x0200, 0x12), (0x0300, 0x56)] base)) [] =
      some [0x00, 0x00, 0x00, 0x24, 0xFD, 0x1234, 12] := by decide

/-- V-LST-1, V-LST-2, V-LST-3. -/
theorem test_loads :
    after (code 0x0200 [0xA9, 0x00] { base with a := 0x11 }) [] = some [0x00, 0x00, 0x00, 0x26, 0xFD, 0x0202, 9]
    ∧ after (code 0x0200 [0xA2, 0x80] base) [] = some [0x00, 0x80, 0x00, 0xA4, 0xFD, 0x0202, 9]
    ∧ after (code 0x0200 [0xBC, 0xFF, 0x02] (setCells [(0x0300, 0x7F)] { base with x := 0x01 })) [] =
      some [0x00, 0x01, 0x7F, 0x24, 0xFD, 0x0203, 12] := by decide

/-- V-LST-5, V-LST-6. -/
theorem test_stores :
    after (code 0x0200 [0x96, 0x10] { base with x := 0xAB, y := 0x05 }) [0x0015] =
      some [0x00, 0xAB, 0x05, 0x24, 0xFD, 0x0202, 11, 0xAB]
    ∧ after (code 0x0200 [0x8C, 0x34, 0x03] { base with y := 0xCD }) [0x0334] =
      some [0x00, 0x00, 0xCD, 0x24, 0xFD, 0x0203, 11, 0xCD] := by decide

/-- V-LST-7, V-LST-8, V-LST-9, V-LST-10, V-LST-11, V-LST-12. -/
theorem test_transfers :
    after (code 0x0200 [0xAA] { base with a := 0x90 }) [] = some [0x90, 0x90, 0x00, 0xA4, 0xFD, 0x0201, 9]
    ∧ after (code 0x0200 [0xA8] { base with y := 0x12 }) [] = some [0x00, 0x00, 0x00, 0x26, 0xFD, 0x0201, 9]
    ∧ after (code 0x0200 [0x8A] { base with a := 0xFF, x := 0x01 }) [] = some [0x01, 0x01, 0x00, 0x24, 0xFD, 0x0201, 9]
    ∧ after (code 0x0200 [0x98] { base with y := 0x80 }) [] = some [0x80, 0x00, 0x80, 0xA4, 0xFD, 0x0201, 9]
    ∧ after (code 0x0200 [0xBA] base) [] = some [0x00, 0xFD, 0x00, 0xA4, 0xFD, 0x0201, 9]
    ∧ after (code 0x0200 [0x9A] base) [] = some [0x00, 0x00, 0x00, 0x24, 0x00, 0x0201, 9] := by decide

/-- V-ALU-1, V-ALU-2, V-ALU-3, V-ALU-4. -/
theorem test_adc :
    after (code 0x0200 [0x69, 0x50] { base with a := 0x50 }) [] = some [0xA0, 0x00, 0x00, 0xE4, 0xFD, 0x0202, 9]
    ∧ after (code 0x0200 [0x69, 0x01] { base with a := 0xFF }) [] = some [0x00, 0x00, 0x00, 0x27, 0xFD, 0x0202, 9]
    ∧ after (code 0x0200 [0x69, 0x00] { base with a := 0x7F, p := 0x25 }) [] = some [0x80, 0x00, 0x00, 0xE4, 0xFD, 0x0202, 9]
    ∧ after (code 0x0200 [0x69, 0xFF] { base with a := 0x80 }) [] = some [0x7F, 0x00, 0x00, 0x65, 0xFD, 0x0202, 9] := by decide

/-- V-ALU-5. -/
theorem test_adc_ignores_decimal :
    after (code 0x0200 [0x69, 0x01] { base with a := 0x09, p := 0x2C }) [] =
      some [0x0A, 0x00, 0x00, 0x2C, 0xFD, 0x0202, 9] := by decide

/-- V-ALU-6, V-ALU-7, V-ALU-8. -/
theorem test_sbc :
    after (code 0x0200 [0xE9, 0xB0] { base with a := 0x50, p := 0x25 }) [] = some [0xA0, 0x00, 0x00, 0xE4, 0xFD, 0x0202, 9]
    ∧ after (code 0x0200 [0xE9, 0x01] { base with p := 0x25 }) [] = some [0xFF, 0x00, 0x00, 0xA4, 0xFD, 0x0202, 9]
    ∧ after (code 0x0200 [0xE9, 0x03] { base with a := 0x05 }) [] = some [0x01, 0x00, 0x00, 0x25, 0xFD, 0x0202, 9] := by decide

/-- V-ALU-9, V-ALU-10, V-ALU-11. -/
theorem test_and_ora_eor :
    after (code 0x0200 [0x29, 0x0F] { base with a := 0xF0 }) [] = some [0x00, 0x00, 0x00, 0x26, 0xFD, 0x0202, 9]
    ∧ after (code 0x0200 [0x09, 0x01] { base with a := 0x80 }) [] = some [0x81, 0x00, 0x00, 0xA4, 0xFD, 0x0202, 9]
    ∧ after (code 0x0200 [0x49, 0xAA] { base with a := 0xAA }) [] = some [0x00, 0x00, 0x00, 0x26, 0xFD, 0x0202, 9] := by decide

/-- V-ALU-12. -/
theorem test_bit :
    after (code 0x0200 [0x24, 0x10] (setCells [(0x0010, 0xC0)] { base with a := 0x01 })) [] =
      some [0x01, 0x00, 0x00, 0xE6, 0xFD, 0x0202, 10] := by decide

/-- V-ALU-13, V-ALU-14, V-ALU-15, V-ALU-16, V-ALU-17. -/
theorem test_compares :
    after (code 0x0200 [0xC9, 0x40] { base with a := 0x40 }) [] = some [0x40, 0x00, 0x00, 0x27, 0xFD, 0x0202, 9]
    ∧ after (code 0x0200 [0xC9, 0x20] { base with a := 0x10 }) [] = some [0x10, 0x00, 0x00, 0xA4, 0xFD, 0x0202, 9]
    ∧ after (code 0x0200 [0xC9, 0x00] { base with a := 0xFF, p := 0x64 }) [] = some [0xFF, 0x00, 0x00, 0xE5, 0xFD, 0x0202, 9]
    ∧ after (code 0x0200 [0xE0, 0x05] { base with x := 0x05 }) [] = some [0x00, 0x05, 0x00, 0x27, 0xFD, 0x0202, 9]
    ∧ after (code 0x0200 [0xC0, 0x80] base) [] = some [0x00, 0x00, 0x00, 0xA4, 0xFD, 0x0202, 9] := by decide

/-- V-ALU-18, V-ALU-19. -/
theorem test_inc_dec_memory :
    after (code 0x0200 [0xE6, 0x10] (setCells [(0x0010, 0xFF)] base)) [0x0010] =
      some [0x00, 0x00, 0x00, 0x26, 0xFD, 0x0202, 12, 0x00]
    ∧ after (code 0x0200 [0xCE, 0x00, 0x03] (setCells [(0x0300, 0x00)] base)) [0x0300] =
      some [0x00, 0x00, 0x00, 0xA4, 0xFD, 0x0203, 13, 0xFF] := by decide

/-- V-ALU-20, V-ALU-21, V-ALU-22, V-ALU-23. -/
theorem test_inc_dec_registers :
    after (code 0x0200 [0xE8] { base with x := 0xFF }) [] = some [0x00, 0x00, 0x00, 0x26, 0xFD, 0x0201, 9]
    ∧ after (code 0x0200 [0xC8] { base with y := 0x7F }) [] = some [0x00, 0x00, 0x80, 0xA4, 0xFD, 0x0201, 9]
    ∧ after (code 0x0200 [0xCA] { base with x := 0x01 }) [] = some [0x00, 0x00, 0x00, 0x26, 0xFD, 0x0201, 9]
    ∧ after (code 0x0200 [0x88] base) [] = some [0x00, 0x00, 0xFF, 0xA4, 0xFD, 0x0201, 9] := by decide

/-- V-SHF-1, V-SHF-3, V-SHF-4, V-SHF-5. -/
theorem test_shift_and_rotate_accumulator :
    after (code 0x0200 [0x0A] { base with a := 0x81 }) [] = some [0x02, 0x00, 0x00, 0x25, 0xFD, 0x0201, 9]
    ∧ after (code 0x0200 [0x4A] { base with a := 0x01 }) [] = some [0x00, 0x00, 0x00, 0x27, 0xFD, 0x0201, 9]
    ∧ after (code 0x0200 [0x2A] { base with a := 0x80, p := 0x25 }) [] = some [0x01, 0x00, 0x00, 0x25, 0xFD, 0x0201, 9]
    ∧ after (code 0x0200 [0x6A] { base with a := 0x01, p := 0x25 }) [] =
      some [0x80, 0x00, 0x00, 0xA5, 0xFD, 0x0201, 9] := by decide

/-- V-SHF-2, V-SHF-6. -/
theorem test_shift_and_rotate_memory :
    after (code 0x0200 [0x06, 0x10] (setCells [(0x0010, 0x40)] base)) [0x0010] =
      some [0x00, 0x00, 0x00, 0xA4, 0xFD, 0x0202, 12, 0x80]
    ∧ after (code 0x0200 [0x7E, 0xF0, 0x02] (setCells [(0x0310, 0x02)] { base with x := 0x20 })) [0x0310] =
      some [0x00, 0x20, 0x00, 0x24, 0xFD, 0x0203, 14, 0x01] := by decide

/-- V-CTL-1, V-EXC-6. -/
theorem test_jump :
    after (code 0x0200 [0x4C, 0x34, 0x12] base) [] = some [0x00, 0x00, 0x00, 0x24, 0xFD, 0x1234, 10]
    ∧ after (code 0x0200 [0x4C, 0x00, 0x10] { base with cfg := halting 0x1000 }) [] =
      some [0x00, 0x00, 0x00, 0x24, 0xFD, 0x1000, 10] := by decide

/-- V-CTL-2, V-CTL-3, V-EXC-5. -/
theorem test_call_and_return :
    after (code 0x0200 [0x20, 0x00, 0x03] base) [0x01FC, 0x01FD] = some [0x00, 0x00, 0x00, 0x24, 0xFB, 0x0300, 13, 0x02, 0x02]
    ∧ after (code 0x0300 [0x60] (setCells [(0x01FC, 0x02), (0x01FD, 0x02)] { base with sp := 0xFB })) [] =
      some [0x00, 0x00, 0x00, 0x24, 0xFD, 0x0203, 13]
    ∧ after (code 0x0200 [0x60] (setCells [(0x01FC, 0xFF), (0x01FD, 0x0F)] { base with sp := 0xFB })) [] =
      some [0x00, 0x00, 0x00, 0x24, 0xFD, 0x1000, 13] := by decide

/-- V-CTL-4. -/
theorem test_return_from_interrupt :
    after (code 0x0200 [0x40] (setCells [(0x01FB, 0xFF), (0x01FC, 0x34), (0x01FD, 0x12)] { base with sp := 0xFA })) [] =
      some [0x00, 0x00, 0x00, 0xEF, 0xFD, 0x1234, 13] := by decide

/-- V-BR-BPL-1, V-BR-BPL-2, V-BR-BPL-3. -/
theorem test_bpl :
    after (code 0x0200 [0x10, 0x10] { base with p := 0xA4 }) [] = some [0x00, 0x00, 0x00, 0xA4, 0xFD, 0x0202, 9]
    ∧ after (code 0x0200 [0x10, 0x10] base) [] = some [0x00, 0x00, 0x00, 0x24, 0xFD, 0x0212, 10]
    ∧ after (code 0x02F0 [0x10, 0x10] base) [] = some [0x00, 0x00, 0x00, 0x24, 0xFD, 0x0302, 11] := by decide

/-- V-BR-BMI-1, V-BR-BMI-2, V-BR-BMI-3. -/
theorem test_bmi :
    after (code 0x0200 [0x30, 0x10] base) [] = some [0x00, 0x00, 0x00, 0x24, 0xFD, 0x0202, 9]
    ∧ after (code 0x0200 [0x30, 0x10] { base with p := 0xA4 }) [] = some [0x00, 0x00, 0x00, 0xA4, 0xFD, 0x0212, 10]
    ∧ after (code 0x02F0 [0x30, 0x10] { base with p := 0xA4 }) [] = some [0x00, 0x00, 0x00, 0xA4, 0xFD, 0x0302, 11] := by decide

/-- V-BR-BVC-1, V-BR-BVC-2, V-BR-BVC-3. -/
theorem test_bvc :
    after (code 0x0200 [0x50, 0x10] { base with p := 0x64 }) [] = some [0x00, 0x00, 0x00, 0x64, 0xFD, 0x0202, 9]
    ∧ after (code 0x0200 [0x50, 0x10] base) [] = some [0x00, 0x00, 0x00, 0x24, 0xFD, 0x0212, 10]
    ∧ after (code 0x02F0 [0x50, 0x10] base) [] = some [0x00, 0x00, 0x00, 0x24, 0xFD, 0x0302, 11] := by decide

/-- V-BR-BVS-1, V-BR-BVS-2, V-BR-BVS-3. -/
theorem test_bvs :
    after (code 0x0200 [0x70, 0x10] base) [] = some [0x00, 0x00, 0x00, 0x24, 0xFD, 0x0202, 9]
    ∧ after (code 0x0200 [0x70, 0x10] { base with p := 0x64 }) [] = some [0x00, 0x00, 0x00, 0x64, 0xFD, 0x0212, 10]
    ∧ after (code 0x02F0 [0x70, 0x10] { base with p := 0x64 }) [] = some [0x00, 0x00, 0x00, 0x64, 0xFD, 0x0302, 11] := by decide

/-- V-BR-BCC-1, V-BR-BCC-2, V-BR-BCC-3. -/
theorem test_bcc :
    after (code 0x0200 [0x90, 0x10] { base with p := 0x25 }) [] = some [0x00, 0x00, 0x00, 0x25, 0xFD, 0x0202, 9]
    ∧ after (code 0x0200 [0x90, 0x10] base) [] = some [0x00, 0x00, 0x00, 0x24, 0xFD, 0x0212, 10]
    ∧ after (code 0x02F0 [0x90, 0x10] base) [] = some [0x00, 0x00, 0x00, 0x24, 0xFD, 0x0302, 11] := by decide

/-- V-BR-BCS-1, V-BR-BCS-2, V-BR-BCS-3. -/
theorem test_bcs :
    after (code 0x0200 [0xB0, 0x10] base) [] = some [0x00, 0x00, 0x00, 0x24, 0xFD, 0x0202, 9]
    ∧ after (code 0x0200 [0xB0, 0x10] { base with p := 0x25 }) [] = some [0x00, 0x00, 0x00, 0x25, 0xFD, 0x0212, 10]
    ∧ after (code 0x02F0 [0xB0, 0x10] { base with p := 0x25 }) [] = some [0x00, 0x00, 0x00, 0x25, 0xFD, 0x0302, 11] := by decide

/-- V-BR-BNE-1, V-BR-BNE-2, V-BR-BNE-3. -/
theorem test_bne :
    after (code 0x0200 [0xD0, 0x10] { base with p := 0x26 }) [] = some [0x00, 0x00, 0x00, 0x26, 0xFD, 0x0202, 9]
    ∧ after (code 0x0200 [0xD0, 0x10] base) [] = some [0x00, 0x00, 0x00, 0x24, 0xFD, 0x0212, 10]
    ∧ after (code 0x02F0 [0xD0, 0x10] base) [] = some [0x00, 0x00, 0x00, 0x24, 0xFD, 0x0302, 11] := by decide

/-- V-BR-BEQ-1, V-BR-BEQ-2, V-BR-BEQ-3. -/
theorem test_beq :
    after (code 0x0200 [0xF0, 0x10] base) [] = some [0x00, 0x00, 0x00, 0x24, 0xFD, 0x0202, 9]
    ∧ after (code 0x0200 [0xF0, 0x10] { base with p := 0x26 }) [] = some [0x00, 0x00, 0x00, 0x26, 0xFD, 0x0212, 10]
    ∧ after (code 0x02F0 [0xF0, 0x10] { base with p := 0x26 }) [] = some [0x00, 0x00, 0x00, 0x26, 0xFD, 0x0302, 11] := by decide

/-- V-ADR-16. -/
theorem test_branch_backward :
    after (code 0x0210 [0xF0, 0xFC] { base with p := 0x26 }) [] = some [0x00, 0x00, 0x00, 0x26, 0xFD, 0x020E, 10] := by decide

/-- V-STK-1, V-STK-3. -/
theorem test_push_wraps :
    after (code 0x0200 [0x48] { base with a := 0x42, sp := 0x00 }) [0x0100] =
      some [0x42, 0x00, 0x00, 0x24, 0xFF, 0x0201, 10, 0x42]
    ∧ after (code 0x0200 [0x08] base) [0x01FD] = some [0x00, 0x00, 0x00, 0x24, 0xFC, 0x0201, 10, 0x34] := by decide

/-- V-STK-4, V-STK-5. -/
theorem test_pull_wraps :
    after (code 0x0200 [0x68] (setCells [(0x0100, 0x80)] { base with sp := 0xFF })) [] =
      some [0x80, 0x00, 0x00, 0xA4, 0x00, 0x0201, 11]
    ∧ after (code 0x0200 [0x28] (setCells [(0x01FE, 0xFF)] base)) [] =
      some [0x00, 0x00, 0x00, 0xEF, 0xFE, 0x0201, 11] := by decide

/-- V-FLG-1, V-FLG-2, V-FLG-3, V-FLG-4, V-FLG-5, V-FLG-6, V-FLG-7. -/
theorem test_flag_instructions :
    after (code 0x0200 [0x18] { base with p := 0x25 }) [] = some [0x00, 0x00, 0x00, 0x24, 0xFD, 0x0201, 9]
    ∧ after (code 0x0200 [0x38] base) [] = some [0x00, 0x00, 0x00, 0x25, 0xFD, 0x0201, 9]
    ∧ after (code 0x0200 [0x58] base) [] = some [0x00, 0x00, 0x00, 0x20, 0xFD, 0x0201, 9]
    ∧ after (code 0x0200 [0x78] { base with p := 0x20 }) [] = some [0x00, 0x00, 0x00, 0x24, 0xFD, 0x0201, 9]
    ∧ after (code 0x0200 [0xB8] { base with p := 0x64 }) [] = some [0x00, 0x00, 0x00, 0x24, 0xFD, 0x0201, 9]
    ∧ after (code 0x0200 [0xD8] { base with p := 0x2C }) [] = some [0x00, 0x00, 0x00, 0x24, 0xFD, 0x0201, 9]
    ∧ after (code 0x0200 [0xF8] base) [] = some [0x00, 0x00, 0x00, 0x2C, 0xFD, 0x0201, 9] := by decide

/-- V-FLG-8, V-UND-1, V-UND-2, V-UND-3, V-UND-4, V-UND-5, V-UND-6. -/
theorem test_nops :
    after (code 0x0200 [0xEA] base) [] = some [0x00, 0x00, 0x00, 0x24, 0xFD, 0x0201, 9]
    ∧ after (code 0x0200 [0x1A] base) [] = some [0x00, 0x00, 0x00, 0x24, 0xFD, 0x0201, 9]
    ∧ after (code 0x0200 [0x80, 0xFF] base) [] = some [0x00, 0x00, 0x00, 0x24, 0xFD, 0x0202, 9]
    ∧ after (code 0x0200 [0x04, 0x10] base) [] = some [0x00, 0x00, 0x00, 0x24, 0xFD, 0x0202, 10]
    ∧ after (code 0x0200 [0x14, 0xFF] { base with x := 0x02 }) [] = some [0x00, 0x02, 0x00, 0x24, 0xFD, 0x0202, 11]
    ∧ after (code 0x0200 [0x0C, 0x02, 0x20] base) [] = some [0x00, 0x00, 0x00, 0x24, 0xFD, 0x0203, 11]
    ∧ after (code 0x0200 [0x1C, 0xF0, 0x02] { base with x := 0x20 }) [] =
      some [0x00, 0x20, 0x00, 0x24, 0xFD, 0x0203, 12] := by decide

/-- V-UND-7, V-UND-8. -/
theorem test_lax :
    after (code 0x0200 [0xA7, 0x10] (setCells [(0x0010, 0x80)] base)) [] = some [0x80, 0x80, 0x00, 0xA4, 0xFD, 0x0202, 10]
    ∧ after (code 0x0200 [0xB3, 0x20] (setCells [(0x0020, 0xF0), (0x0021, 0x02), (0x0310, 0x81)] { base with y := 0x20 })) [] =
      some [0x81, 0x81, 0x20, 0xA4, 0xFD, 0x0202, 13] := by decide

/-- V-UND-9. -/
theorem test_sax :
    after (code 0x0200 [0x87, 0x10] { base with a := 0xF0, x := 0x3C }) [0x0010] =
      some [0xF0, 0x3C, 0x00, 0x24, 0xFD, 0x0202, 10, 0x30] := by decide

/-- V-UND-10, V-UND-17. -/
theorem test_dcp :
    after (code 0x0200 [0xC7, 0x10] (setCells [(0x0010, 0x11)] { base with a := 0x10 })) [0x0010] =
      some [0x10, 0x00, 0x00, 0x27, 0xFD, 0x0202, 12, 0x10]
    ∧ after (code 0x0200 [0xDB, 0xF0, 0x02] (setCells [(0x0310, 0x01)] { base with y := 0x20 })) [0x0310] =
      some [0x00, 0x00, 0x20, 0x27, 0xFD, 0x0203, 14, 0x00] := by decide

/-- V-UND-11. -/
theorem test_isb :
    after (code 0x0200 [0xE7, 0x10] (setCells [(0x0010, 0x0F)] { base with a := 0x10, p := 0x25 })) [0x0010] =
      some [0x00, 0x00, 0x00, 0x27, 0xFD, 0x0202, 12, 0x10] := by decide

/-- V-UND-12. -/
theorem test_sbc_eb :
    after (code 0x0200 [0xEB, 0x01] { base with p := 0x25 }) [] = some [0xFF, 0x00, 0x00, 0xA4, 0xFD, 0x0202, 9] := by decide

/-- V-UND-13, V-UND-14, V-UND-15, V-UND-16. -/
theorem test_slo_rla_sre_rra :
    after (code 0x0200 [0x07, 0x10] (setCells [(0x0010, 0x81)] { base with a := 0x01 })) [0x0010] =
      some [0x03, 0x00, 0x00, 0x25, 0xFD, 0x0202, 12, 0x02]
    ∧ after (code 0x0200 [0x27, 0x10] (setCells [(0x0010, 0x80)] { base with a := 0xFF, p := 0x25 })) [0x0010] =
      some [0x01, 0x00, 0x00, 0x25, 0xFD, 0x0202, 12, 0x01]
    ∧ after (code 0x0200 [0x47, 0x10] (setCells [(0x0010, 0x03)] { base with a := 0xFF })) [0x0010] =
      some [0xFE, 0x00, 0x00, 0xA5, 0xFD, 0x0202, 12, 0x01]
    ∧ after (code 0x0200 [0x67, 0x10] (setCells [(0x0010, 0x03)] { base with a := 0x10 })) [0x0010] =
      some [0x12, 0x00, 0x00, 0x24, 0xFD, 0x0202, 12, 0x01] := by decide

/-- V-EXC-1, V-EXC-2. -/
theorem test_undefined_opcodes :
    after (code 0x0200 [0x02] base) [] = some [0x00, 0x00, 0x00, 0x24, 0xFD, 0x0201, 9]
    ∧ diagAfter (code 0x0200 [0x02] base) = some [⟨0x02, 0x0200⟩]
    ∧ after (code 0x0200 [0x9C, 0x00, 0x03] { base with a := 0xFF, x := 0xFF, y := 0xFF }) [] =
      some [0xFF, 0xFF, 0xFF, 0x24, 0xFD, 0x0203, 12]
    ∧ diagAfter (code 0x0200 [0x9C, 0x00, 0x03] { base with a := 0xFF, x := 0xFF, y := 0xFF }) =
      some [⟨0x9C, 0x0200⟩] := by decide

/-- V-HAZ-1. -/
theorem test_store_into_own_operand :
    after (code 0x0200 [0x8D, 0x01, 0x02] { base with a := 0x05 }) [0x0201] =
      some [0x05, 0x00, 0x00, 0x24, 0xFD, 0x0203, 11, 0x05] := by decide

/-- V-CTL-5. -/
theorem test_break :
    after (code 0x0200 [0x00, 0xEA] (setCells [(0xFFFE, 0x00), (0xFFFF, 0x80)] { base with p := 0x20 })) [0x01FB, 0x01FC, 0x01FD]
      = some [0x00, 0x00, 0x00, 0x24, 0xFA, 0x8000, 14, 0x30, 0x02, 0x02] := by decide

/-- V-EXC-3, V-EXC-5, V-EXC-6: only an RTS to the sentinel halts. -/
theorem test_halt_at_sentinel :
    runAfter (code 0x0300 [0x60] (setCells [(0x01FC, 0xFF), (0x01FD, 0x0F)] { base with sp := 0xFB, cfg := halting 0x1000 })) =
      some .halted
    ∧ runAfter (code 0x0300 [0x60] (setCells [(0x01FC, 0xFF), (0x01FD, 0x0F)] { base with sp := 0xFB })) = some .running
    ∧ runAfter (code 0x0200 [0x4C, 0x00, 0x10] { base with cfg := halting 0x1000 }) = some .running := by decide

/-- V-BUS-10: the byte of a peripheral read is a draw. -/
theorem test_pixel_register_read_is_a_draw :
    (next? (code 0x0200 [0xAD, 0x02, 0x20] base)).map (fun t => (t.a, t.events)) =
      some (Config.draw 0, [⟨.rd, 0x2002, Config.draw 0⟩]) := by rfl

/-- V-BUS-15: a read-modify-write of a pixel register reads once and writes once. -/
theorem test_pixel_register_increment :
    eventsAfter (code 0x0200 [0xEE, 0x00, 0x20] base) =
      some [⟨.rd, 0x2000, Config.draw 0⟩, ⟨.wr, 0x2000, Config.draw 0 + 1⟩] := by rfl

/-- V-BUS-11: with two banks, the lower half shows the first and the upper half the last. -/
theorem test_two_banks : ∀ s, s = ({ base with
      prg := [(0x0000, 0x11), (0x4000, 0x22)]
      cfg := { base.cfg with prgBanks := 2 } } : State) →
    (busRead 0x8000 s).1 = 0x11 ∧ (busRead 0xC000 s).1 = 0x22 := by
  rintro s rfl
  decide

/-- V-BUS-12: with one bank, both halves show it. -/
theorem test_one_bank : (busRead 0x8123 { base with prg := [(0x0123, 0x5C)] }).1 = 0x5C
    ∧ (busRead 0xC123 { base with prg := [(0x0123, 0x5C)] }).1 = 0x5C := by decide

/-- S1. -/
theorem test_read16_page_wrap :
    (read16PW 0x02FF (setCells [(0x02FF, 0x34), (0x0200, 0x12), (0x0300, 0x56)] base)).1 = 0x1234
    ∧ (read16 0x02FF (setCells [(0x02FF, 0x34), (0x0200, 0x12), (0x0300, 0x56)] base)).1 = 0x5634 := by decide

/-- V-RST-1. -/
theorem test_reset : (State.launch { Launch.blank with prg := [(0x3FFC, 0x34), (0x3FFD, 0x12)] }).pc = 0x1234
    ∧ State.reset.sp = 0xFD ∧ State.reset.p &&& 0x24 = 0x24 ∧ State.reset.cyc = 7 := by decide

/-- V-RST-2. -/
theorem test_reset_two_banks : (State.launch { Launch.blank with
      prg := [(0x7FFC, 0x00), (0x7FFD, 0x03)]
      cfg := { base.cfg with prgBanks := 2 } }).pc = 0x0300 := by decide

/-- R374: the conformance launch starts at 0xC000 with `P = 0x24`. -/
theorem test_conformance_start :
    (conformanceStart (conformanceLaunch [] [] [] [] 0 none 0)).map (fun s => (s.pc, s.p)) = some (0xC000, 0x24) := by decide

/-- R352: the host may override PC before the first step, and not after it. -/
theorem test_override_before_first_step_only : ∃ t, (overridePc 0xC000 (code 0x0200 [0xEA] base)).isSome = true
    ∧ step (code 0x0200 [0xEA] base) = .next t ∧ overridePc 0xC000 t = none :=
  ⟨_, by decide, rfl, by decide⟩

/-- R374, R375: a ROM that is one RTS at 0xC000 pops the bytes above the launch stack, and the run passes. With a result code
of 0x0100 the same run halts and does not pass. -/
theorem test_conformance_run :
    (conformanceRun 1 (Launch.haltingAt 0x1000 { Launch.blank with prg := [(0x0000, 0x60)] })).map
      (fun t => (t.pc, conformancePassed t)) = some (0x1000, true)
    ∧ (conformanceRun 1 (Launch.haltingAtReturn { Launch.blank with prg := [(0x0000, 0x60)], ram := [(0x0003, 0x01)] })).map
      (fun t => (t.pc, resultCode t, conformancePassed t)) = some (0x0001, 0x0100, false)
    ∧ conformanceRun 1 { Launch.blank with prg := [(0x0000, 0x60)] } = none := by decide

/-- R344: an absolute operand shows the byte at its address, an immediate one its byte, the accumulator its token. -/
theorem test_trace_annotation :
    (trace (code 0x0200 [0xAD, 0x10, 0x03] (setCells [(0x0310, 0x5A)] base))).shown = .value 0x5A
    ∧ (trace (code 0x0200 [0xA9, 0x42] base)).shown = .value 0x42
    ∧ (trace (code 0x0200 [0x0A] { base with a := 0x81 })).shown = .accumulatorToken := by decide

/-- R344, S7: the fields of the golden trace's first line. -/
theorem test_trace : ∀ l, l = trace (code 0xC000 [0x4C, 0xF5, 0xC5] base) →
    l.pc = 0xC000 ∧ l.bytes = [0x4C, 0xF5, 0xC5] ∧ l.mnemonic = "JMP" ∧ l.ea = .mem 0xC5F5 ∧ l.p = 0x24 ∧ l.sp = 0xFD := by
  rintro l rfl
  decide

/-- R126, R332, spec/95_test_vectors.md P2: what a step returns to its caller. -/
theorem test_step_result :
    (stepResult (code 0x0200 [0xEA] base)).map Prod.fst = some (.cycles 2)
    ∧ (stepResult { base with run := .halted }).map Prod.fst = some (.halt 0) := by decide

/-- A driver with an empty image whose peripherals may write the listed addresses. -/
def driver (writable : List Word) : DriverConfig :=
  { image := ⟨[], 0, 0⟩, apuRatio := .perCycle, periphWritable := writable, coreHz := 3, overshoot := .carry }

/-- R348, R351: a budget of three cycles takes two steps of two cycles each and carries one cycle of debt. -/
theorem test_advance_carries_debt :
    (advanceFor (driver []) (fun _ _ _ => []) (fun _ _ => []) 1 1 ⟨0, code 0x0200 [0xEA, 0xEA, 0xEA] base⟩).debt = 1 := by decide

/-! ## Witnesses: states and operands that meet the statements' hypotheses -/

/-- An LDA, a JMP through cells, an ASL of A and an LDA of a cell at the last place where all three bytes are cells. -/
def atEdge (bytes : List Byte) : State := code 0x1FFD bytes base

theorem witness_StepRunsTheDecodedInstruction :
    base.run = .running ∧ storable 0x1FFD = true ∧ storable 0x1FFE = true ∧ storable 0x1FFF = true
    ∧ (atEdge [0xA9, 0x42, 0x00]).pc = 0x1FFD
    ∧ decode [(atEdge [0xA9, 0x42, 0x00]).peek 0x1FFD, (atEdge [0xA9, 0x42, 0x00]).peek 0x1FFE,
        (atEdge [0xA9, 0x42, 0x00]).peek 0x1FFF] = .ok (.ldaImm 0x42, [0x00]) := by decide

/-- The second clause's three cases: no operand byte, one, and two; its bytes need not be cells. -/
theorem witness_StepRunsTheDecodedInstruction_reads :
    (builderOf 0xEA).reads = 0 ∧ (builderOf 0xA9).reads = 1 ∧ (builderOf 0x4C).reads = 2 ∧ storable 0x2000 = false := by decide

theorem witness_NoStepUnlessRunning : ∃ s t : State, s.run = .halted ∧ t.run = .fatal .badModeTag :=
  ⟨{ base with run := .halted }, { base with run := .fatal .badModeTag }, rfl, rfl⟩

theorem witness_EncodeAfterDecode : decode [0xA9, 0x10, 0xEA] = .ok (.ldaImm 0x10, [0xEA])
    ∧ Instr.addrMode (.ldaImm 0x10) ≠ .immediateSkip ∧ Instr.mnemonic (.ldaImm 0x10) ≠ .undefined
    ∧ decode [0x80, 0xFF] = .ok (.nopImm80, []) ∧ decode [0x9C, 0x01, 0x02] = .ok (.undef9C, []) := by decide

theorem witness_OpcodeClassesAndPenalties :
    (0x02 : Byte) ∈ undefinedDefaults.map Prod.fst ∧ (0xA9 : Byte) ∉ undefinedDefaults.map Prod.fst
    ∧ (0xBD : Byte) ∈ penaltyOpcodes ∧ (0x9D : Byte) ∉ penaltyOpcodes := by decide

/-- The trace's clauses: a memory operand, an immediate one, the accumulator, and the indirect jump whose pointer is a cell. -/
theorem witness_TraceShowsTheNextInstruction :
    base.cfg.valid = true ∧ eaOf (.ldaZp 0x10) base = .mem 0x0010 ∧ storable 0x0010 = true
    ∧ eaOf (.ldaImm 0x42) (atEdge [0xA9, 0x42, 0x00]) = .imm 0x1FFE 0x42 ∧ eaOf .aslAcc base = .acc
    ∧ storable 0x02FF = true ∧ storable (wordOf (hi8 0x02FF) (lo8 0x02FF + 1)) = true
    ∧ decode [(atEdge [0x6C, 0xFF, 0x02]).peek 0x1FFD, (atEdge [0x6C, 0xFF, 0x02]).peek 0x1FFE,
        (atEdge [0x6C, 0xFF, 0x02]).peek 0x1FFF] = .ok (.jmpInd 0x02FF, []) := by decide

theorem witness_LengthsAndCyclesAreInRange :
    (Instr.desc (.ldxZpY 0)).cls ≠ .undefined ∧ Instr.addrMode (.ldxZpY 0) = .zeroPageY 0 ∧ (Instr.desc .undef02).cls = .undefined
    ∧ Config.valid { base.cfg with undef := [⟨0x02, 3, 1⟩] } = true := by decide

theorem witness_ResetMeetsTheInvariant : Launch.blank.valid = true := by decide

theorem witness_RamAccesses : (0x0000 : Word).toNat < 0x2000 ∧ (0x1FFF : Word).toNat < 0x2000 := by decide

/-- Both ends of every range, in the order of the clauses; no address is in two of them. -/
theorem witness_PeripheralWindowAccesses :
    (∀ a ∈ ([0x2000, 0x3FFF] : List Word), 0x2000 ≤ a.toNat ∧ a.toNat < 0x4000)
    ∧ (∀ a ∈ ([0x4000, 0x4013, 0x4015] : List Word), 0x4000 ≤ a.toNat ∧ (a.toNat < 0x4014 ∨ a.toNat = 0x4015))
    ∧ (0x4014 : Word).toNat = 0x4014
    ∧ (∀ a ∈ ([0x4016, 0x4017] : List Word), 0x4016 ≤ a.toNat ∧ a.toNat < 0x4018)
    ∧ (∀ a ∈ ([0x4018, 0x5FFF] : List Word), 0x4018 ≤ a.toNat ∧ a.toNat < 0x6000) := by simp

theorem witness_CartridgeAccesses :
    (∀ a ∈ ([0x6000, 0x7FFF] : List Word), 0x6000 ≤ a.toNat ∧ a.toNat < 0x8000)
    ∧ (∀ a ∈ ([0x8000, 0xBFFF] : List Word), 0x8000 ≤ a.toNat ∧ a.toNat < 0xC000)
    ∧ (∀ a ∈ ([0xC000, 0xFFFF] : List Word), 0xC000 ≤ a.toNat) := by simp

/-- Where the bus sends both ends of every range (R51). -/
theorem test_busTarget :
    ([0x0000, 0x1FFF, 0x2000, 0x3FFF, 0x4000, 0x4013, 0x4014, 0x4015, 0x4016, 0x4017, 0x4018, 0x5FFF, 0x6000, 0x7FFF, 0x8000,
      0xFFFF] : List Word).map busTarget =
    [.ram 0, .ram 0x7FF, .pixel 0x2000, .pixel 0x2007, .audio 0, .audio 0x13, .dma, .audio 0x15, .input, .input, .unmapped,
      .unmapped, .save 0, .save 0x1FFF, .program, .program] := by decide

theorem witness_ReadsReturnTheLastWrite :
    sameCell 0x0000 0x1800 = true ∧ sameCell 0x7FFF 0x7FFF = true ∧ sameCell 0x0000 0x0001 = false ∧ storable 0x0001 = true
    ∧ sameCell 0x8000 0x8000 = false ∧ storable 0x8000 = true := by decide

theorem witness_PushesWrapTheStackPointer :
    (List.replicate 256 (0x5A : Byte)).length = 256 ∧ (List.replicate 257 (0x5A : Byte)).length = 257 :=
  ⟨List.length_replicate, List.length_replicate⟩

/-- One instruction of each mnemonic that a statement of 41_ to 44_ names, in the order it names them. -/
theorem witness_LoadsWriteTheirRegisters : ([.ldaImm 0, .ldxImm 0, .ldyImm 0, .laxZp 0] : List Instr).map Instr.mnemonic =
    [.lda, .ldx, .ldy, .lax] := by decide
theorem witness_StoresWriteTheirByte : ([.staZp 0, .stxZp 0, .styZp 0, .saxZp 0] : List Instr).map Instr.mnemonic =
    [.sta, .stx, .sty, .sax] := by decide
theorem witness_TransfersCopyARegister : ([.tax, .tay, .txa, .tya, .tsx, .txs] : List Instr).map Instr.mnemonic =
    [.tax, .tay, .txa, .tya, .tsx, .txs] := by decide
theorem witness_AddAndSubtractWithCarry : ([.adcImm 0, .sbcImm 0, .sbcImmEB 0] : List Instr).map Instr.mnemonic =
    [.adc, .sbc, .sbc] := by decide
/-- Both carry-ins of SBC. -/
theorem witness_SubtractIsSubtraction : Instr.mnemonic (.sbcImmEB 1) = .sbc ∧ State.flag { base with p := 0x25 } .c = true
    ∧ base.flag .c = false := by decide
theorem witness_DecimalFlagIsInert : ([.adcImm 0, .sbcImm 0, .rraZp 0, .isbZp 0, .cmpImm 0, .cpxImm 0, .cpyImm 0, .dcpZp 0,
      .incZp 0, .decZp 0, .inx, .iny, .dex, .dey] : List Instr).map Instr.mnemonic =
    [.adc, .sbc, .rra, .isb, .cmp, .cpx, .cpy, .dcp, .inc, .dec, .inx, .iny, .dex, .dey] := by decide
theorem witness_LogicOperations : ([.andImm 0, .oraImm 0, .eorImm 0] : List Instr).map Instr.mnemonic = [.and, .ora, .eor] := by
  decide
theorem witness_BitTest : Instr.mnemonic (.bitAbs 0x2002) = .bit := by decide
theorem witness_CompareOperations : ([.cmpImm 0, .cpxImm 0, .cpyImm 0] : List Instr).map Instr.mnemonic = [.cmp, .cpx, .cpy] := by
  decide
theorem witness_IncrementAndDecrementMemory : ([.incZp 0, .decZp 0] : List Instr).map Instr.mnemonic = [.inc, .dec] := by decide
theorem witness_IncrementAndDecrementRegisters : ([.inx, .iny, .dex, .dey] : List Instr).map Instr.mnemonic =
    [.inx, .iny, .dex, .dey] := by decide
/-- Both forms: the accumulator and a memory operand. -/
theorem witness_ShiftsAndRotates : ([.aslAcc, .lsrAcc, .rolAcc, .rorAcc, .rorAbsX 0] : List Instr).map Instr.mnemonic =
    [.asl, .lsr, .rol, .ror, .ror] ∧ eaOf .rorAcc base = .acc ∧ eaOf (.rorAbsX 0) base ≠ .acc := by decide
theorem witness_JumpLoadsTheProgramCounter : Instr.mnemonic (.jmpAbs 0x1234) = .jmp ∧ Instr.mnemonic (.jmpInd 0x02FF) = .jmp := by
  decide
theorem witness_BranchesAndTheirTiming : ([.bpl 0, .bmi 0, .bvc 0, .bvs 0, .bcc 0, .bcs 0, .bne 0, .beq 0] : List Instr).map
    Instr.mnemonic = [.bpl, .bmi, .bvc, .bvs, .bcc, .bcs, .bne, .beq] := by decide
theorem witness_PushesStoreOneByte : Instr.mnemonic .pha = .pha ∧ Instr.mnemonic .php = .php := by decide
theorem witness_PullsLoadOneByte : Instr.mnemonic .pla = .pla ∧ Instr.mnemonic .plp = .plp := by decide
theorem witness_FlagInstructionsWriteOneFlag : ([.clc, .sec, .cli, .sei, .clv, .cld, .sed] : List Instr).map Instr.mnemonic =
    [.clc, .sec, .cli, .sei, .clv, .cld, .sed] := by decide
theorem witness_NoOperationsOnlyAdvance : Instr.mnemonic .nop = .nop ∧ Instr.mnemonic (.nopAbsX1C 0x02F0) = .nop := by decide
theorem witness_DecrementThenCompare : Instr.mnemonic (.dcpAbsY 0) = .dcp := by decide
theorem witness_IncrementThenSubtract : Instr.mnemonic (.isbIndY 0) = .isb := by decide
theorem witness_ShiftThenLogic : ([.sloZp 0, .rlaZp 0, .sreZp 0] : List Instr).map Instr.mnemonic = [.slo, .rla, .sre] := by decide
theorem witness_RotateThenAdd : Instr.mnemonic (.rraZp 0) = .rra := by decide

/-- An undefined value at its defaults, in an empty list and in one that names another value, and one whose length and cycles
the configuration changes. -/
theorem witness_UndefinedOpcodesRecordADiagnostic :
    Instr.mnemonic .undef02 = .undefined ∧ ((0x02 : Byte), 1, 2) ∈ undefinedDefaults ∧ base.cfg.undef = []
    ∧ (∀ f ∈ [(⟨0x02, 3, 9⟩ : UndefEntry)], f.opcode = Instr.opcode .undef02 → f = ⟨0x02, 3, 9⟩)
    ∧ (∀ e ∈ [(⟨0x02, 3, 9⟩ : UndefEntry)], e.opcode ≠ Instr.opcode .undef9C)
    ∧ after (code 0x0200 [0x9C] { base with cfg := { base.cfg with undef := [⟨0x02, 3, 9⟩] } }) [] =
      some [0, 0, 0, 0x24, 0xFD, 0x0203, 12]
    ∧ after (code 0x0200 [0x02] { base with cfg := { base.cfg with undef := [⟨0x02, 3, 9⟩] } }) [] =
      some [0, 0, 0, 0x24, 0xFD, 0x0203, 16] := by decide

theorem witness_EveryInstructionExecutes : Instr.nop ≠ Instr.rts := by decide

/-- A state that meets the invariant and answers a next state: StepKeepsTheInvariant, EveryStepConsumesCycles,
StorageThatNoStepWrites, EventsOnlyGrow and StepReturnsItsCycles. -/
theorem witness_StepKeepsTheInvariant : ∃ t, State.inv (code 0x0200 [0x8D, 0x00, 0x60] { base with a := 0x99 }) = true
    ∧ step (code 0x0200 [0x8D, 0x00, 0x60] { base with a := 0x99 }) = .next t ∧ t.run = .running ∧ t.inv = true :=
  ⟨_, by decide, rfl, by decide, by decide⟩

theorem witness_EveryStepConsumesCycles : ∃ t, base.cfg.valid = true ∧ step (code 0x0200 [0xEA] base) = .next t ∧ t.cyc = 9 :=
  ⟨_, by decide, rfl, by decide⟩

/-- A store to the audio bank, which may write every entry but 0x14. -/
theorem witness_StorageThatNoStepWrites : ∃ t, step (code 0x0200 [0x8D, 0x15, 0x40] { base with a := 0x0F }) = .next t
    ∧ Memory.read t.apu 0x15 = 0x0F ∧ Memory.read t.apu 0x14 = 0x00 :=
  ⟨_, rfl, by decide, by decide⟩

/-- Instructions outside and inside each list of writers. -/
theorem witness_RegisterWriters : ∃ t u, exec .nop base = .next t ∧ exec (.stxZp 0x10) base = .next u
    ∧ Instr.mnemonic .nop ∉ [Mnemonic.lda, .pla, .txa, .tya, .adc, .sbc, .and, .ora, .eor, .lax, .slo, .rla, .sre, .rra, .isb]
    ∧ Instr.addrMode .nop ≠ .accumulator ∧ Instr.mnemonic (.stxZp 0x10) ∉ [Mnemonic.ldx, .tax, .tsx, .inx, .dex, .lax] :=
  ⟨_, _, rfl, rfl, by decide, by decide, by decide⟩

theorem witness_FlagWriters : ∃ t u, exec .sec base = .next t ∧ exec .plp base = .next u ∧ t.flag .c = true ∧ u.flag .u = true
    ∧ Instr.mnemonic .sec ∉ [Mnemonic.sei, .cli, .brk, .plp, .rti] ∧ Instr.mnemonic .sec ∉ [Mnemonic.sed, .cld, .plp, .rti]
    ∧ Instr.mnemonic .sec ∉ [Mnemonic.adc, .sbc, .bit, .clv, .rra, .isb, .plp, .rti] :=
  ⟨_, _, rfl, rfl, by decide, by decide, by decide, by decide, by decide⟩

/-- A step of an undefined opcode, and one of a defined opcode. -/
theorem witness_DiagnosticsOnlyFromUndefinedOpcodes : ∃ t u, step (code 0x0200 [0x02] base) = .next t
    ∧ step (code 0x0200 [0xEA] base) = .next u ∧ t.diag = [⟨0x02, 0x0200⟩] ∧ u.diag = [] :=
  ⟨_, _, rfl, rfl, by decide, by decide⟩

/-- A step that records an event. -/
theorem witness_EventsOnlyGrow : ∃ t, step (code 0x0200 [0x8D, 0x14, 0x40] { base with a := 0x02 }) = .next t
    ∧ t.events = [⟨.wr, 0x4014, 0x02⟩] :=
  ⟨_, rfl, by decide⟩

/-- The RTS that halts: HaltOnlyAtTheSentinel and the second clause of StepReturnsItsCycles. -/
theorem witness_HaltOnlyAtTheSentinel : ∃ t, step (code 0x0200 [0x60] { base with cfg := halting 0x0001 }) = .next t
    ∧ t.pc = 0x0001 ∧ t.run = .halted :=
  ⟨_, rfl, by decide, by decide⟩

theorem witness_StepReturnsItsCycles : ∃ t u, step (code 0x0200 [0xEA] base) = .next t ∧ t.run = .running
    ∧ step (code 0x0200 [0x60] { base with cfg := halting 0x0001 }) = .next u ∧ u.run = .halted
    ∧ State.run { base with run := .halted } = .halted :=
  ⟨_, _, rfl, by decide, rfl, by decide, rfl⟩

/-- A pixel unit whose first step writes bytes of RAM and of the audio bank, the first as the image's mapper tag says. -/
def writer : PixelAgent := fun im k _ =>
  if k = 0 then [(0x0300, BitVec.ofNat 8 im.mapper), (0x0301, 0x7F), (0x4000, 0x11), (0x4001, 0x12)] else []

/-- A cell that no allowed address shows, in memory and in the audio bank: it keeps its byte while the mirror of an allowed one
changes, to what the image says (R8). -/
theorem witness_PeripheralsWriteOnlyWhereAllowed :
    (∀ a ∈ ([0x0300, 0x4000] : List Word), sameCell a 0x0301 = false)
    ∧ (∀ a ∈ ([0x0300, 0x4000] : List Word), busTarget a ≠ .audio 1)
    ∧ ∃ t, t = runPeripherals { driver [0x0300, 0x4000] with image := ⟨[], 0x7E, 0⟩ } writer (fun _ _ => []) 1 base
      ∧ t.peek 0x0B00 = 0x7E ∧ t.peek 0x0301 = 0x00 ∧ Memory.read t.apu 0 = 0x11 ∧ Memory.read t.apu 1 = 0x00 := by
  refine ⟨?_, ?_, _, rfl, by decide, by decide, by decide, by decide⟩ <;> simp only [List.forall_mem_cons] <;>
    exact ⟨by decide, by decide, fun _ h => nomatch h⟩

end Sys2Proof.Tests
end

section
/-!
PROOFS of the whole-machine statements, 1: the invariant (spec/10_state.md R28, R40 to R43), at a launch and at every step,
and the core that takes no step.
-/

namespace Sys2Proof.Machine

/-- The invariant's six parts. -/
theorem State.inv_iff (s : State) :
    s.inv = true ↔
      getFlag s.p .u = true ∧ Memory.wf ramSize s.ram = true ∧ Memory.wf sramSize s.sram = true ∧
        Memory.wf apuSize s.apu = true ∧ Memory.wf (s.cfg.prgBanks * bankSize) s.prg = true ∧ s.cfg.valid = true := by
  simp [State.inv, and_assoc]

theorem State.inv_setP {s : State} {v : Byte} (hv : getFlag v .u = getFlag s.p .u ∨ getFlag v .u = true)
    (hs : s.inv = true) : (s.setP v).inv = true := by
  rw [State.inv_iff] at hs ⊢
  obtain ⟨hu, hrest⟩ := hs
  exact ⟨hv.elim (fun h => h.trans hu) id, hrest⟩

theorem inv_busRead (a : Word) {s : State} (hs : s.inv = true) : (busRead a s).2.inv = true := by
  rcases busRead_state a s with h | ⟨_, h⟩ | h <;> rw [h] <;> exact hs

/-- Every index that the bus writes is inside its array, so a write keeps the canonical form (R52, R54, R58). -/
theorem inv_busWrite (a : Word) (v : Byte) {s : State} (hs : s.inv = true) : (busWrite a v s).inv = true := by
  rw [State.inv_iff] at hs ⊢
  obtain ⟨hu, hram, hsram, hapu, hrest⟩ := hs
  unfold busWrite
  cases ht : busTarget a
  case ram i => exact ⟨hu, Memory.wf_write v (busTarget_ram_lt ht) hram, hsram, hapu, hrest⟩
  case save i => exact ⟨hu, hram, Memory.wf_write v (busTarget_save_lt ht) hsram, hapu, hrest⟩
  case audio i => exact ⟨hu, hram, hsram, Memory.wf_write v (busTarget_audio_lt ht).1 hapu, hrest⟩
  all_goals exact ⟨hu, hram, hsram, hapu, hrest⟩

/-- Every update that actions are made of keeps the invariant. -/
theorem inv_kept : Kept (fun s => s.inv = true) True where
  setA _ _ hs := hs
  setX _ _ hs := hs
  setY _ _ hs := hs
  setSp _ _ hs := hs
  setPc _ _ hs := hs
  setFlag s f on hf hs := State.inv_setP (.inl (getFlag_setFlag_other s.p on hf)) hs
  setNZ s v hs := State.inv_setP (.inl (by simp [getFlag_setNZ])) hs
  compare s reg m hs := State.inv_setP (.inl (by simp [getFlag_compareFlags])) hs
  pulled _ v hs := State.inv_setP (.inr (by simp [getFlag_pulledStatus])) hs
  busRead _ a hs := inv_busRead a hs
  busWrite _ a v hs := inv_busWrite a v hs
  addDiag _ _ _ hs := hs

/-- Settles O51: the fetch and the actions are made of updates that keep the invariant. -/
theorem stepKeepsTheInvariant : Obligations.StepKeepsTheInvariant := by
  intro s t hs h
  exact step_keeps inv_kept (fun _ _ hs => hs) (fun _ hs => hs) h hs

/-- A valid launch has the invariant's arrays and configuration, and reset sets U (R28, R370). -/
theorem inv_launch {l : Launch} (h : l.valid = true) : (State.launch l).inv = true := by
  simp only [Launch.valid, Bool.and_eq_true] at h
  obtain ⟨⟨⟨⟨hcfg, hram⟩, hapu⟩, hsram⟩, hprg⟩ := h
  rw [State.inv_iff]
  exact ⟨getFlag_resetStatus _ _ _ _ _ _ .u, hram, hsram, hapu, hprg, hcfg⟩

/-- Settles O11: State.reset is the blank launch's state, and the blank launch is valid. -/
theorem resetMeetsTheInvariant : Obligations.ResetMeetsTheInvariant :=
  ⟨fun _ h => inv_launch h, inv_launch (l := Launch.blank) (by decide)⟩

/-- Settles O2: the step looks at RUN before anything else. -/
theorem noStepUnlessRunning : Obligations.NoStepUnlessRunning := by
  intro s
  constructor
  · intro h
    simp [step, h]
  · intro r h
    simp [step, h]

end Sys2Proof.Machine
end
section
/-!
PROOFS of the whole-machine statements, 2: what a step leaves alone or only adds to: RUN, CYC, DIAG, EVENTS, and the
storage that no step writes.
-/

namespace Sys2Proof.Machine

/-! ## Properties that no action can break -/

/-- A property that no register update can break is kept by every action if the bus and DIAG keep it. -/
theorem Kept.of_registers_free {P : State → Prop} {D : Prop}
    (hregs : ∀ s a x y sp p pc, P s → P { s with a := a, x := x, y := y, sp := sp, p := p, pc := pc })
    (hread : ∀ s a, P s → P (Machine.busRead a s).2) (hwrite : ∀ s a v, P s → P (Machine.busWrite a v s))
    (hdiag : ∀ s d, D → P s → P (s.addDiag d)) : Kept P D where
  setA s v := hregs s v s.x s.y s.sp s.p s.pc
  setX s v := hregs s s.a v s.y s.sp s.p s.pc
  setY s v := hregs s s.a s.x v s.sp s.p s.pc
  setSp s v := hregs s s.a s.x s.y v s.p s.pc
  setPc s w := hregs s s.a s.x s.y s.sp s.p w
  setFlag s _ _ _ := hregs s s.a s.x s.y s.sp _ s.pc
  setNZ s _ := hregs s s.a s.x s.y s.sp _ s.pc
  compare s _ _ := hregs s s.a s.x s.y s.sp _ s.pc
  pulled s _ := hregs s s.a s.x s.y s.sp _ s.pc
  busRead := hread
  busWrite := hwrite
  addDiag := hdiag

theorem run_kept (r : RunStatus) (D : Prop) : Kept (fun s => s.run = r) D :=
  .of_registers_free (fun _ _ _ _ _ _ _ h => h) (fun s a h => (busRead_run a s).trans h)
    (fun s a v h => (busWrite_run a v s).trans h) fun _ _ _ h => h

theorem cyc_kept (n : Nat) (D : Prop) : Kept (fun s => s.cyc = n) D :=
  .of_registers_free (fun _ _ _ _ _ _ _ h => h) (fun s a h => (busRead_cyc a s).trans h)
    (fun s a v h => (busWrite_cyc a v s).trans h) fun _ _ _ h => h

/-- DIAG is kept where no diagnostic is raised. -/
theorem diag_kept (ds : List Diagnostic) {D : Prop} (hD : ¬D) : Kept (fun s => s.diag = ds) D :=
  .of_registers_free (fun _ _ _ _ _ _ _ h => h) (fun s a h => (busRead_diag a s).trans h)
    (fun s a v h => (busWrite_diag a v s).trans h) fun _ _ h => absurd h hD

theorem events_begin_kept (es : List Event) (D : Prop) : Kept (fun s => es <+: s.events) D :=
  .of_registers_free (fun _ _ _ _ _ _ _ h => h)
    (fun s a h => h.trans ((busRead_events a s).imp fun _ e => e.symm))
    (fun s a v h => h.trans ((busWrite_events a v s).imp fun _ e => e.symm)) fun _ _ _ h => h

/-- No address names audio entry 0x14, the DMA trigger's place (R42, R55). -/
theorem busWrite_apu_0x14 (a : Word) (v : Byte) (s : State) :
    Memory.read (busWrite a v s).apu 0x14 = Memory.read s.apu 0x14 := by
  unfold busWrite
  cases ht : busTarget a
  case audio i => exact Memory.read_write_other _ _ (busTarget_audio_lt ht).2.symm
  all_goals rfl

/-- The storage that no update writes: the image, the configuration, and audio entry 0x14. -/
def FixedStorage (s t : State) : Prop :=
  t.prg = s.prg ∧ t.cfg = s.cfg ∧ Memory.read t.apu 0x14 = Memory.read s.apu 0x14

theorem fixedStorage_kept (s₀ : State) (D : Prop) : Kept (FixedStorage s₀) D :=
  .of_registers_free (fun _ _ _ _ _ _ _ h => h)
    (fun s a h => by simpa [FixedStorage] using h)
    (fun s a v h => by simpa [FixedStorage, busWrite_apu_0x14] using h) fun _ _ _ h => h

/-- One instruction keeps every property that its updates and the cycle counter's keep; only RTS can halt. -/
theorem afterExecute_keeps {P : State → Prop} (i : Instr) (k : Kept P (i.mnemonic = .undefined))
    (hc : ∀ s n, P s → P (s.addCyc n)) (hh : i = .rts → ∀ s, P s → P (s.setRun .halted)) (pc0 : Word) {s : State}
    (hs : P s) : P (afterExecute i (actionOf i pc0) s) := by
  have hb : P (beforeExecute i s) := hc _ _ (k.setPc _ _ (k.resolve hs _))
  have ha := hc _ (actionOf i pc0 (resolve i.addrMode s).ea (beforeExecute i s)).1
    (actionOf_keeps i k pc0 (resolve i.addrMode s).ea hb)
  unfold afterExecute haltCheck
  dsimp only
  split
  · next h => exact hh (opcode_eq_rts.mp h.1) _ ha
  · exact ha

/-- Settles O50: no update of an action writes RUN, and the halt check writes it for an RTS only. -/
theorem everyInstructionExecutes : Obligations.EveryInstructionExecutes := by
  intro i s
  exact ⟨_, exec_eq i s, fun hi => afterExecute_keeps i (run_kept s.run _) (fun _ _ h => h) (fun h => absurd h hi) s.pc rfl⟩

/-- Settles O55: the bus drops a write to the image, and no address names audio entry 0x14. -/
theorem storageThatNoStepWrites : Obligations.StorageThatNoStepWrites := by
  intro s t h
  exact step_keeps (fixedStorage_kept s True) (fun _ _ h => h) (fun _ h => h) h ⟨rfl, rfl, rfl⟩

/-- Settles O57: after every update EVENTS still begins with the old one. -/
theorem eventsOnlyGrow : Obligations.EventsOnlyGrow := by
  intro s t h
  have hp : s.events <+: t.events :=
    step_keeps (events_begin_kept s.events True) (fun _ _ h => h) (fun _ h => h) h List.prefix_rfl
  exact hp.imp fun _ e => e.symm

/-! ## The fetched instruction -/

/-- The fetch leaves what every bus read leaves. -/
theorem fetchInstr_leaves {α : Type} (f : State → α) (hf : ∀ a s, f (busRead a s).2 = f s) (s : State) :
    f (fetchInstr s).2 = f s := by
  unfold fetchInstr
  dsimp only
  split <;> simp only [hf]

@[simp] theorem fetchInstr_pc (s : State) : (fetchInstr s).2.pc = s.pc := fetchInstr_leaves _ busRead_pc s
@[simp] theorem fetchInstr_cyc (s : State) : (fetchInstr s).2.cyc = s.cyc := fetchInstr_leaves _ busRead_cyc s
@[simp] theorem fetchInstr_diag (s : State) : (fetchInstr s).2.diag = s.diag := fetchInstr_leaves _ busRead_diag s
@[simp] theorem fetchInstr_cfg (s : State) : (fetchInstr s).2.cfg = s.cfg := fetchInstr_leaves _ busRead_cfg s

theorem fetchInstr_eq_decodeOp (s : State) : ∃ b1 b2, (fetchInstr s).1 = decodeOp (busRead s.pc s).1 b1 b2 := by
  rw [fetchInstr_eq]
  dsimp only
  split <;> exact ⟨_, _, rfl⟩

/-- The fetched instruction has the opcode value read at PC (R121). -/
theorem fetchInstr_opcode (s : State) : (fetchInstr s).1.opcode = (busRead s.pc s).1 := by
  obtain ⟨b1, b2, h⟩ := fetchInstr_eq_decodeOp s
  rw [h]
  exact (Laws.builderOf_cell _ b1 b2).1

/-- The opcode value read at PC alone gives the descriptor (R90, R92). -/
theorem fetchInstr_desc (s : State) : (fetchInstr s).1.desc = descOf (busRead s.pc s).1 := by
  obtain ⟨b1, b2, h⟩ := fetchInstr_eq_decodeOp s
  rw [h]
  exact (Laws.builderOf_cell _ b1 b2).2.1

/-- The 29 undefined opcode values are those of R312's list. -/
theorem descOf_mnemonic_undefined (op : Byte) :
    (descOf op).mnemonic = .undefined ↔ op ∈ Claims.undefinedDefaults.map Prod.fst := by
  revert op
  decide +kernel

theorem fetchInstr_undefined (s : State) :
    (fetchInstr s).1.mnemonic = .undefined ↔ (busRead s.pc s).1 ∈ Claims.undefinedDefaults.map Prod.fst := by
  rw [Instr.mnemonic, fetchInstr_desc, descOf_mnemonic_undefined]

/-! ## DIAG -/

/-- An undefined opcode value records its own diagnostic (R312, R331), and no other instruction records one. -/
theorem afterExecute_diag (i : Instr) (pc0 : Word) (s : State) :
    (afterExecute i (actionOf i pc0) s).diag =
      s.diag ++ if i.mnemonic = .undefined then [⟨i.opcode, pc0⟩] else [] := by
  by_cases hm : i.mnemonic = .undefined
  · simp [afterExecute, actionOf, hm, undefinedOpcode, plainly, raiseDiagnostic]
  · have h := afterExecute_keeps i (diag_kept s.diag hm) (fun _ _ h => h) (fun _ _ h => h) pc0 (s := s) rfl
    simpa [hm] using h

/-- Settles O56: the fetched instruction is undefined exactly when its opcode value is one of the 29. -/
theorem diagnosticsOnlyFromUndefinedOpcodes : Obligations.DiagnosticsOnlyFromUndefinedOpcodes := by
  intro s t h
  obtain ⟨-, rfl⟩ := step_next h
  simp only [afterExecute_diag, fetchInstr_undefined, fetchInstr_opcode, fetchInstr_pc, fetchInstr_diag]

/-! ## CYC -/

theorem desc_cycles_pos (i : Instr) : 1 ≤ i.desc.cycles := by
  cases i <;> exact Nat.succ_le_succ (Nat.zero_le _)

/-- A valid configuration gives no opcode value 0 base cycles (R92, R103). -/
theorem baseCycles_pos {cfg : Config} (h : cfg.valid = true) (i : Instr) : 1 ≤ baseCycles cfg i := by
  unfold baseCycles
  split
  · split
    · next e he =>
      simp only [Config.valid, Bool.and_eq_true, List.all_eq_true] at h
      have hv := h.2 e (List.mem_of_find?_eq_some he)
      simp only [UndefEntry.valid, Bool.and_eq_true, decide_eq_true_eq] at hv
      exact hv.2
    · exact desc_cycles_pos i
  · exact desc_cycles_pos i
  · exact desc_cycles_pos i

/-- An instruction adds at least what the step accounts before it executes (R124, R125). -/
theorem le_afterExecute_cyc (i : Instr) (pc0 : Word) (s : State) :
    s.cyc + accounted s.cfg i (resolve i.addrMode s).crossed ≤ (afterExecute i (actionOf i pc0) s).cyc := by
  have ha := actionOf_keeps i (cyc_kept (beforeExecute i s).cyc _) pc0 (resolve i.addrMode s).ea rfl
  simp [afterExecute, ha]

/-- Settles O52: the base cycles alone are at least one. -/
theorem everyStepConsumesCycles : Obligations.EveryStepConsumesCycles := by
  intro s t hv h
  obtain ⟨-, rfl⟩ := step_next h
  have hacc := le_afterExecute_cyc (fetchInstr s).1 (fetchInstr s).2.pc (fetchInstr s).2
  have hbase := baseCycles_pos hv (fetchInstr s).1
  simp only [accounted, fetchInstr_cyc, fetchInstr_cfg] at hacc
  omega

end Sys2Proof.Machine
end
section
/-!
PROOFS of the whole-machine statements, 3: which instructions write which register and flag (spec/10_state.md R21 to R36).
One table says what each mnemonic's action may write, one theorem holds the actions to it, and the two statements compare
their lists with the table.
-/

namespace Sys2Proof.Machine

/-! ## The parts and who may write them -/

/-- A register or a flag. -/
inductive Part where
  | a | x | y | sp
  | flag (f : Flag)
  deriving DecidableEq

/-- What a part holds: a register's byte or a flag's value. -/
def Part.get : Part → State → Byte ⊕ Bool
  | .a, s => .inl s.a
  | .x, s => .inl s.x
  | .y, s => .inl s.y
  | .sp, s => .inl s.sp
  | .flag f, s => .inr (s.flag f)

/-- The parts that a mnemonic's action may write, less A in the accumulator forms of the shifts. -/
def partsWritten : Mnemonic → List Part
  | .adc | .sbc | .isb | .rra => [.a, .flag .c, .flag .v, .flag .z, .flag .n]
  | .and | .ora | .eor | .lda | .txa | .tya => [.a, .flag .z, .flag .n]
  | .slo | .rla | .sre => [.a, .flag .c, .flag .z, .flag .n]
  | .asl | .lsr | .rol | .ror | .cmp | .cpx | .cpy | .dcp => [.flag .c, .flag .z, .flag .n]
  | .bit => [.flag .z, .flag .n, .flag .v]
  | .inc | .dec => [.flag .z, .flag .n]
  | .ldx | .tax | .tsx | .inx | .dex => [.x, .flag .z, .flag .n]
  | .ldy | .tay | .iny | .dey => [.y, .flag .z, .flag .n]
  | .lax => [.a, .x, .flag .z, .flag .n]
  | .pla => [.sp, .a, .flag .z, .flag .n]
  | .txs | .pha | .php | .jsr | .rts => [.sp]
  | .brk => [.sp, .flag .i]
  | .plp | .rti => [.sp, .flag .c, .flag .z, .flag .i, .flag .d, .flag .b, .flag .u, .flag .v, .flag .n]
  | .clc | .sec => [.flag .c]
  | .cli | .sei => [.flag .i]
  | .cld | .sed => [.flag .d]
  | .clv => [.flag .v]
  | .sta | .stx | .sty | .sax | .jmp | .nop | .undefined | .bcc | .bcs | .beq | .bmi | .bne | .bpl | .bvc | .bvs => []

/-! ## What each update leaves alone -/

section
variable {q : Part} (s : State)

@[simp] theorem Part.get_setA (v : Byte) (h : q ≠ .a) : q.get (s.setA v) = q.get s := by
  cases q with
  | a => exact absurd rfl h
  | _ => rfl
@[simp] theorem Part.get_setX (v : Byte) (h : q ≠ .x) : q.get (s.setX v) = q.get s := by
  cases q with
  | x => exact absurd rfl h
  | _ => rfl
@[simp] theorem Part.get_setY (v : Byte) (h : q ≠ .y) : q.get (s.setY v) = q.get s := by
  cases q with
  | y => exact absurd rfl h
  | _ => rfl
@[simp] theorem Part.get_setSp (v : Byte) (h : q ≠ .sp) : q.get (s.setSp v) = q.get s := by
  cases q with
  | sp => exact absurd rfl h
  | _ => rfl

/-- A new P can change only the flags in which it differs. -/
theorem Part.get_setP (p : Byte) (h : ∀ f, q = .flag f → getFlag p f = getFlag s.p f) : q.get (s.setP p) = q.get s := by
  cases q
  case flag f => exact congrArg Sum.inr (h f rfl)
  all_goals rfl

@[simp] theorem Part.get_setFlag {f : Flag} (on : Bool) (h : q ≠ .flag f) : q.get (s.setFlag f on) = q.get s :=
  Part.get_setP s _ fun _ hq => getFlag_setFlag_other s.p on fun e => h (e ▸ hq)

@[simp] theorem Part.get_setNZ (v : Byte) (hz : q ≠ .flag .z) (hn : q ≠ .flag .n) : q.get (s.setNZ v) = q.get s :=
  Part.get_setP s _ fun f hq => by
    subst hq
    simp only [ne_eq, Part.flag.injEq] at hz hn
    simp [getFlag_setNZ, hz, hn]

@[simp] theorem Part.get_compare (reg m : Byte) (hc : q ≠ .flag .c) (hz : q ≠ .flag .z) (hn : q ≠ .flag .n) :
    q.get (s.compare reg m) = q.get s :=
  Part.get_setP s _ fun f hq => by
    subst hq
    simp only [ne_eq, Part.flag.injEq] at hc hz hn
    simp [getFlag_compareFlags, hc, hz, hn]

@[simp] theorem Part.get_setPc (w : Word) : q.get (s.setPc w) = q.get s := by cases q <;> rfl
@[simp] theorem Part.get_addCyc (n : Nat) : q.get (s.addCyc n) = q.get s := by cases q <;> rfl
@[simp] theorem Part.get_addDiag (d : Diagnostic) : q.get (s.addDiag d) = q.get s := by cases q <;> rfl

@[simp] theorem Part.get_busRead (a : Word) : q.get (busRead a s).2 = q.get s := by
  cases q <;> simp [Part.get, State.flag]

@[simp] theorem Part.get_busWrite (a : Word) (v : Byte) : q.get (busWrite a v s) = q.get s := by
  cases q <;> simp [Part.get, State.flag]

@[simp] theorem Part.get_operand (ea : EA) : q.get (operand ea s).2 = q.get s := by
  cases q <;> simp [Part.get, State.flag]

@[simp] theorem Part.get_writeBack {ea : EA} (v : Byte) (h : q = .a → ea ≠ .acc) :
    q.get (writeBack ea v s) = q.get s := by
  cases ea with
  | none => rfl
  | acc => exact Part.get_setA s v fun e => h e rfl
  | imm a _ | mem a => exact Part.get_busWrite s a v

@[simp] theorem Part.get_push (v : Byte) (h : q ≠ .sp) : q.get (push v s) = q.get s := by
  simp [push, h]

@[simp] theorem Part.get_pull (h : q ≠ .sp) : q.get (pull s).2 = q.get s := by
  simp [pull, h]

@[simp] theorem Part.get_beforeExecute (i : Instr) : q.get (beforeExecute i s) = q.get s := by
  cases q <;> simp [Part.get, State.flag]

@[simp] theorem Part.get_haltCheck (i : Instr) : q.get (haltCheck i s) = q.get s := by
  cases q <;> simp [Part.get, State.flag]

/-- PullStatus writes every flag and SP, and no other register. -/
theorem Part.get_pullStatus (hsp : q ≠ .sp) (hf : ∀ f, q ≠ .flag f) : q.get (pullStatus s) = q.get s := by
  rw [pullStatus, Part.get_setP _ _ fun f e => absurd e (hf f), Part.get_pull s hsp]

@[simp] theorem Part.get_branchOn (f : Flag) (on : Bool) (ea : EA) : q.get (branchOn f on ea s).2 = q.get s := by
  rcases branchOn_state f on ea s with h | ⟨w, h⟩ <;> simp [h]

@[simp] theorem Part.get_jumpTo (ea : EA) : q.get (jumpTo ea s) = q.get s := by
  rcases jumpTo_state ea s with h | ⟨w, h⟩ <;> simp [h]

end

/-- The only effective address in A is the accumulator mode's (R128). -/
theorem resolve_ea_acc {m : AddrMode} {s : State} (h : (resolve m s).ea = .acc) : m = .accumulator := by
  cases m with
  | accumulator => rfl
  | _ => cases h

/-! ## The table holds -/

/-- An action leaves every part that the table does not list, A too unless it writes back to the accumulator. -/
theorem actionOf_leaves_part {i : Instr} {q : Part} (hq : q ∉ partsWritten i.mnemonic) (pc0 : Word) {ea : EA}
    (hacc : q = .a → ea ≠ .acc) (s : State) : q.get (actionOf i pc0 ea s).2 = q.get s := by
  have hw (u : State) (v : Byte) : q.get (writeBack ea v u) = q.get u := Part.get_writeBack u v hacc
  unfold actionOf
  cases hm : i.mnemonic <;> simp only [hm, partsWritten, List.mem_cons, List.not_mem_nil, or_false, not_or] at hq <;>
    dsimp only
  case adc | sbc => simp [addCarry, subCarry, reading, State.addToA, hq]
  case isb | rra => simp [incSub, rotateRightAdd, modifying, State.addToA, hq]
  case and | ora | eor => simp [andA, orA, eorA, reading, State.resultA, hq]
  case slo | rla | sre => simp [shiftLeftOr, rotateLeftAnd, shiftRightEor, modifying, State.resultA, hq]
  case asl | lsr | rol | ror =>
    simp [shiftLeft, shiftRight, rotateLeft, rotateRight, modifying, State.shiftFlags, hq, hw]
  case inc | dec => simp [incMem, decMem, modifying, hq, hw]
  case dcp => simp [decCompare, modifying, hq, hw]
  case cmp | cpx | cpy => simp [compareA, compareX, compareY, reading, hq]
  case bit => simp [bitTest, reading, hq]
  case lda | ldx | ldy | lax => simp [loadA, loadX, loadY, loadAX, reading, hq]
  case sta | stx | sty | sax => simp [storeA, storeX, storeY, storeAX, storing, hw]
  case tax | tay | txa | tya | tsx | txs =>
    simp [transferAX, transferAY, transferXA, transferYA, transferSX, transferXS, plainly, hq]
  case inx | iny | dex | dey => simp [incX, incY, decX, decY, plainly, hq]
  case pha | php | pla => simp [pushA, pushP, pushStatus, pullA, plainly, hq]
  case jmp | jsr => simp [jump, callSubroutine, push16, hq]
  case rts => simp [returnSubroutine, pull16, plainly, hq]
  case brk => simp [break_, enterBreak, read16, pushStatus, push16, plainly, hq]
  case plp =>
    have hf : ∀ f, q ≠ .flag f := by rintro (_ | _) <;> simp [hq]
    simp [pullP, plainly, Part.get_pullStatus s hq.1 hf]
  case rti =>
    have hf : ∀ f, q ≠ .flag f := by rintro (_ | _) <;> simp [hq]
    simp [returnInterrupt, returnFromBreak, pull16, plainly, Part.get_pullStatus s hq.1 hf, hq]
  case clc | sec | cli | sei | cld | sed | clv => simp [flagTo, plainly, hq]
  case nop | undefined => simp [noOperation, undefinedOpcode, raiseDiagnostic, plainly]
  case bcc | bcs | beq | bmi | bne | bpl | bvc | bvs => simp

/-- An instruction leaves every part that the table does not list, A too outside the accumulator mode. -/
theorem exec_leaves_part {i : Instr} {s t : State} (h : exec i s = .next t) {q : Part}
    (hq : q ∉ partsWritten i.mnemonic) (hacc : q = .a → i.addrMode ≠ .accumulator) : q.get t = q.get s := by
  rw [exec_eq] at h
  injection h with h
  subst h
  simp [afterExecute, actionOf_leaves_part hq s.pc fun e h => hacc e (resolve_ea_acc h)]

/-- PLP and RTI set U (R28, R241). -/
theorem exec_sets_u {i : Instr} {s t : State} (h : exec i s = .next t) (hm : i.mnemonic ∈ [Mnemonic.plp, .rti]) :
    t.flag .u = true := by
  rw [exec_eq] at h
  injection h with h
  subst h
  simp only [List.mem_cons, List.not_mem_nil, or_false] at hm
  rcases hm with hm | hm <;>
    simp [afterExecute, actionOf, hm, pullP, returnInterrupt, returnFromBreak, pullStatus, pull16_eq, pull_eq, plainly,
      State.flag, getFlag_pulledStatus]

/-! ## The two statements -/

/-- Settles O53: the table gives A, X, Y and SP to the listed mnemonics only. -/
theorem registerWriters : Obligations.RegisterWriters := by
  intro i s t h
  refine ⟨fun hm hacc => ?_, fun hm => ?_, fun hm => ?_, fun hm => ?_⟩
  · have hq : Part.a ∉ partsWritten i.mnemonic := by revert hm; cases i.mnemonic <;> decide
    exact Sum.inl.inj (exec_leaves_part h hq fun _ => hacc)
  · have hq : Part.x ∉ partsWritten i.mnemonic := by revert hm; cases i.mnemonic <;> decide
    exact Sum.inl.inj (exec_leaves_part h hq nofun)
  · have hq : Part.y ∉ partsWritten i.mnemonic := by revert hm; cases i.mnemonic <;> decide
    exact Sum.inl.inj (exec_leaves_part h hq nofun)
  · have hq : Part.sp ∉ partsWritten i.mnemonic := by revert hm; cases i.mnemonic <;> decide
    exact Sum.inl.inj (exec_leaves_part h hq nofun)

/-- A flag outside the table's row of a mnemonic is as before. -/
theorem exec_leaves_flag {i : Instr} {s t : State} (h : exec i s = .next t) {f : Flag}
    (hq : Part.flag f ∉ partsWritten i.mnemonic) : t.flag f = s.flag f :=
  Sum.inr.inj (exec_leaves_part h hq nofun)

/-- Settles O54: the table gives each flag to the listed mnemonics only, and U to PLP and RTI, which set it. -/
theorem flagWriters : Obligations.FlagWriters := by
  intro i s t h
  refine ⟨fun hm => exec_leaves_flag h ?_, fun hm => exec_leaves_flag h ?_, fun hm => exec_leaves_flag h ?_,
    fun hm => exec_leaves_flag h ?_, fun hm => exec_leaves_flag h ?_,
    fun hm => ⟨exec_leaves_flag h ?_, exec_leaves_flag h ?_⟩, ?_⟩
  case refine_8 =>
    by_cases hm : i.mnemonic ∈ [Mnemonic.plp, .rti]
    · simp [hm, exec_sets_u h hm]
    · have hq : Part.flag .u ∉ partsWritten i.mnemonic := by revert hm; cases i.mnemonic <;> decide
      simpa [hm] using exec_leaves_flag h hq
  all_goals
    revert hm
    cases i.mnemonic <;> decide

end Sys2Proof.Machine
end
section
/-!
PROOFS of the whole-machine statements, 4: the D flag and arithmetic (spec/42_arithmetic_logic.md R182). Writing D before an
operation or after it gives the same state, for every operation that the arithmetic instructions are made of.
-/

namespace Sys2Proof.Machine

/-! ## Updates commute with a write of D -/

section
variable (d : Bool) (s : State)

theorem setFlag_setD {f : Flag} (on : Bool) (h : f ≠ .d) :
    (s.setFlag .d d).setFlag f on = (s.setFlag f on).setFlag .d d :=
  congrArg s.setP (flags_ext fun g => by
    by_cases hf : f = g
    · subst hf
      simp [getFlag_setFlag, h.symm]
    · simp [getFlag_setFlag, hf])

theorem setNZ_setD (v : Byte) : (s.setFlag .d d).setNZ v = (s.setNZ v).setFlag .d d :=
  congrArg s.setP (flags_ext fun g => by cases g <;> simp [getFlag_setNZ, getFlag_setFlag])

@[simp] theorem State.compare_p (reg m : Byte) : (s.compare reg m).p = compareFlags reg m s.p := rfl

theorem compare_setD (reg m : Byte) : (s.setFlag .d d).compare reg m = (s.compare reg m).setFlag .d d :=
  congrArg s.setP (flags_ext fun g => by cases g <;> simp [getFlag_compareFlags, getFlag_setFlag])

theorem flag_c_setD : (s.setFlag .d d).flag .c = s.flag .c := getFlag_setFlag_other s.p d (by decide)

theorem addCyc_setD (n : Nat) : (s.setFlag .d d).addCyc n = (s.addCyc n).setFlag .d d := rfl
theorem setA_setD (v : Byte) : (s.setFlag .d d).setA v = (s.setA v).setFlag .d d := rfl

/-- The adder's operands are A, the byte and C: D has no part in it (R182). -/
theorem addToA_setD (m : Byte) : (s.setFlag .d d).addToA m = (s.addToA m).setFlag .d d := by
  simp only [State.addToA, flag_c_setD, State.setFlag_a, setA_setD, setFlag_setD d _ _ (show Flag.c ≠ .d by decide),
    setFlag_setD d _ _ (show Flag.v ≠ .d by decide), setNZ_setD]

theorem busRead_setD (a : Word) :
    busRead a (s.setFlag .d d) = ((busRead a s).1, (busRead a s).2.setFlag .d d) := by
  unfold busRead
  cases busTarget a <;> rfl

theorem busWrite_setD (a : Word) (v : Byte) : busWrite a v (s.setFlag .d d) = (busWrite a v s).setFlag .d d := by
  unfold busWrite
  cases busTarget a <;> rfl

theorem operand_setD (ea : EA) :
    operand ea (s.setFlag .d d) = ((operand ea s).1, (operand ea s).2.setFlag .d d) := by
  cases ea
  case mem a => exact busRead_setD d s a
  all_goals rfl

theorem writeBack_setD (ea : EA) (v : Byte) : writeBack ea v (s.setFlag .d d) = (writeBack ea v s).setFlag .d d := by
  cases ea
  case imm a _ => exact busWrite_setD d s a v
  case mem a => exact busWrite_setD d s a v
  all_goals rfl

theorem read16PW_setD (a : Word) :
    read16PW a (s.setFlag .d d) = ((read16PW a s).1, (read16PW a s).2.setFlag .d d) := by
  simp only [read16PW, busRead_setD]

theorem resolve_setD (m : AddrMode) :
    resolve m (s.setFlag .d d)
      = ⟨(resolve m s).ea, (resolve m s).crossed, (resolve m s).state.setFlag .d d⟩ := by
  cases m
  case indirect w => simp only [resolve, read16PW_setD]
  case indexedIndirect b => simp only [resolve, read16PW_setD, State.setFlag_x]
  case indirectIndexed b => simp only [resolve, read16PW_setD, State.setFlag_y]
  all_goals rfl

theorem beforeExecute_setD (i : Instr) : beforeExecute i (s.setFlag .d d) = (beforeExecute i s).setFlag .d d := by
  simp only [beforeExecute, resolve_setD]
  rfl

/-- The halt check looks at the opcode, PC and the sentinel only (R333). -/
theorem haltCheck_setD (i : Instr) : haltCheck i (s.setFlag .d d) = (haltCheck i s).setFlag .d d := by
  have hite := apply_ite (fun t : State => t.setFlag .d d) (i.opcode = 0x60 ∧ s.cfg.sentinel = some s.pc)
    (s.setRun .halted) s
  exact hite.symm

end

/-! ## Actions that ignore D -/

/-- An action that takes two states which differ only in D to states which differ only in D, at the same cost. -/
def IgnoresD (act : Action) : Prop :=
  ∀ d ea s, act ea (s.setFlag .d d) = ((act ea s).1, (act ea s).2.setFlag .d d)

theorem ignoresD_plainly {f : State → State} (h : ∀ d s, f (s.setFlag .d d) = (f s).setFlag .d d) :
    IgnoresD (plainly f) :=
  fun d _ s => congrArg (Prod.mk 0) (h d s)

theorem ignoresD_reading {f : Byte → State → State} (h : ∀ d m s, f m (s.setFlag .d d) = (f m s).setFlag .d d) :
    IgnoresD (reading f) := fun d ea s => by
  simp only [reading, operand_setD, h]

theorem ignoresD_modifying {f : Byte → Bool → Byte × Bool} {g : Byte → Bool → State → State}
    (h : ∀ d r c s, g r c (s.setFlag .d d) = (g r c s).setFlag .d d) : IgnoresD (modifying f g) := fun d ea s => by
  simp only [modifying, operand_setD, flag_c_setD, writeBack_setD, h]

/-- The arithmetic mnemonics, the fusions among them (R182). -/
def arithmeticMnemonics : List Mnemonic :=
  [.adc, .sbc, .rra, .isb, .cmp, .cpx, .cpy, .dcp, .inc, .dec, .inx, .iny, .dex, .dey]

theorem ignoresD_actionOf {i : Instr} (hm : i.mnemonic ∈ arithmeticMnemonics) (pc0 : Word) :
    IgnoresD (actionOf i pc0) := by
  unfold actionOf
  cases h : i.mnemonic <;> simp [arithmeticMnemonics, h] at hm
  case adc | sbc => exact ignoresD_reading fun d _ s => addToA_setD d s _
  case isb => exact ignoresD_modifying fun d _ _ s => addToA_setD d s _
  case rra =>
    exact ignoresD_modifying fun d r c s => by rw [setFlag_setD d s c (by decide), addToA_setD]
  case cmp | cpx | cpy => exact ignoresD_reading fun d m s => compare_setD d s _ m
  case dcp => exact ignoresD_modifying fun d r _ s => compare_setD d s _ r
  case inc | dec => exact ignoresD_modifying fun d r _ s => setNZ_setD d s r
  case inx | dex => exact ignoresD_plainly fun d s => setNZ_setD d (s.setX _) _
  case iny | dey => exact ignoresD_plainly fun d s => setNZ_setD d (s.setY _) _

theorem afterExecute_setD {i : Instr} {act : Action} (h : IgnoresD act) (d : Bool) (s : State) :
    afterExecute i act (s.setFlag .d d) = (afterExecute i act s).setFlag .d d := by
  simp only [afterExecute, resolve_setD, beforeExecute_setD, h d _ _, addCyc_setD, haltCheck_setD]

/-- Settles O26: every arithmetic action ignores D, and so do the phases around it. -/
theorem decimalFlagIsInert : Obligations.DecimalFlagIsInert := by
  intro i s d hm
  refine ⟨_, exec_eq i s, ?_⟩
  rw [exec_eq]
  exact congrArg Host.Outcome.next (afterExecute_setD (ignoresD_actionOf hm s.pc) d s)

end Sys2Proof.Machine
end
section
/-!
PROOFS of the bus's statements (spec/20_memory.md R52 to R63, R67, R70, R77): what one access does in each range of addresses,
which accesses are recorded, and what a read answers after a write.
-/

namespace Sys2Proof.Machine

/-! ## One access, per target of the dispatch -/

section
variable {a : Word} (v : Byte) (s : State)

/-- A pixel-unit access is a draw, or no store, recorded at the mirrored register (R53). -/
theorem busAccess_of_pixel {reg : Word} (h : busTarget a = .pixel reg) :
    busRead a s = deviceRead reg s ∧ busWrite a v s = s.addEvent ⟨.wr, reg, v⟩ := by
  simp [busRead, busWrite, h]

/-- An audio-unit read is a draw, and a write is kept in the bank (R54). -/
theorem busAccess_of_audio {i : Nat} (h : busTarget a = .audio i) :
    busRead a s = deviceRead a s ∧
      busWrite a v s = (s.setApu (Memory.write s.apu i v)).addEvent ⟨.wr, a, v⟩ := by
  simp [busRead, busWrite, h]

/-- The DMA trigger and the input devices answer a draw and store nothing (R55, R56). -/
theorem busAccess_of_port (h : busTarget a = .dma ∨ busTarget a = .input) :
    busRead a s = deviceRead a s ∧ busWrite a v s = s.addEvent ⟨.wr, a, v⟩ := by
  rcases h with h | h <;> simp [busRead, busWrite, h]

/-- The unmapped expansion answers the configured constant (R57). -/
theorem busAccess_of_unmapped (h : busTarget a = .unmapped) :
    busRead a s = (s.cfg.unmappedValue, s.addEvent ⟨.rd, a, s.cfg.unmappedValue⟩) ∧
      busWrite a v s = s.addEvent ⟨.wr, a, v⟩ := by
  simp [busRead, busWrite, h]

theorem busAccess_of_save {i : Nat} (h : busTarget a = .save i) :
    busRead a s = (Memory.read s.sram i, s) ∧ busWrite a v s = s.setSram (Memory.write s.sram i v) := by
  simp [busRead, busWrite, h]

/-- A write to program storage is dropped (R60). -/
theorem busWrite_of_program (h : busTarget a = .program) : busWrite a v s = s := by
  simp [busWrite, h]

end

/-- Settles O12: below 0x2000 the dispatch gives the RAM cell `a mod 0x800`. -/
theorem ramAccesses : Obligations.RamAccesses := by
  intro a v s h
  have ht := busTarget_ram h
  exact ⟨busRead_of_ram ht s, busWrite_of_ram ht v s⟩

/-- Settles O13: each window is one target of the dispatch. -/
theorem peripheralWindowAccesses : Obligations.PeripheralWindowAccesses := fun _ v s =>
  ⟨fun h h2 => busAccess_of_pixel v s (busTarget_pixel h h2),
    fun h h2 => busAccess_of_audio v s (busTarget_audio h h2),
    fun h => busAccess_of_port v s (.inl (busTarget_dma h)),
    fun h h2 => busAccess_of_port v s (.inr (busTarget_input h h2)),
    fun h h2 => busAccess_of_unmapped v s (busTarget_unmapped h h2)⟩

/-! ## The two banks that program storage shows -/

/-- The offset within a bank, on numbers (R59). -/
theorem toNat_and_bankMask (a : Word) : (a &&& 0x3FFF).toNat = a.toNat % 0x4000 := by
  rw [BitVec.toNat_and]
  exact Nat.and_two_pow_sub_one_eq_mod a.toNat 14

theorem programIndex_firstBank (banks : Nat) {a : Word} (h : a.toNat < 0xC000) :
    programIndex banks a = a.toNat % 0x4000 := by
  rw [← toNat_and_bankMask]
  exact if_pos (by bv_omega)

theorem programIndex_lastBank (banks : Nat) {a : Word} (h : 0xC000 ≤ a.toNat) :
    programIndex banks a = (banks - 1) * 0x4000 + a.toNat % 0x4000 := by
  rw [← toNat_and_bankMask]
  exact if_neg (by bv_omega)

/-- Settles O14: from 0x6000 on the dispatch gives save storage, and from 0x8000 on program storage. -/
theorem cartridgeAccesses : Obligations.CartridgeAccesses := by
  intro a v s
  refine ⟨fun h h2 => busAccess_of_save v s (busTarget_save h h2), fun h h2 => ?_, fun h => ?_,
    fun h => busWrite_of_program v s (busTarget_program h)⟩
  · rw [busRead_of_program (busTarget_program h), State.programByte, programIndex_firstBank _ h2]
  · rw [busRead_of_program (busTarget_program (by omega)), State.programByte, programIndex_lastBank _ h]

/-! ## What is recorded -/

/-- The events of one access at `a`, by the target that the dispatch gives `a`. -/
def Target.events (k : EventKind) (a : Word) (v : Byte) : Target → List Event
  | .ram _ | .save _ | .program => []
  | .pixel reg => [⟨k, reg, v⟩]
  | .audio _ | .dma | .input | .unmapped => [⟨k, a, v⟩]

theorem busRead_events_eq (a : Word) (s : State) :
    (busRead a s).2.events = s.events ++ (busTarget a).events .rd a (busRead a s).1 := by
  unfold busRead
  cases busTarget a
  case ram | save | program => exact (List.append_nil _).symm
  all_goals rfl

theorem busWrite_events_eq (a : Word) (v : Byte) (s : State) :
    (busWrite a v s).events = s.events ++ (busTarget a).events .wr a v := by
  unfold busWrite
  cases busTarget a
  case ram | save | program => exact (List.append_nil _).symm
  all_goals rfl

section
variable (k : EventKind) {a : Word} (v : Byte)

theorem eventOf_below (h : a < 0x2000) : eventOf k a v = [] :=
  if_neg (by bv_omega)

theorem eventOf_above (h : ¬ a < 0x6000) : eventOf k a v = [] :=
  if_neg (by bv_omega)

theorem eventOf_pixel (h : ¬ a < 0x2000) (h2 : a < 0x4000) :
    eventOf k a v = [⟨k, 0x2000 ||| (a &&& 0x0007), v⟩] := by
  rw [eventOf, if_pos (by bv_omega), recordedAddr, if_pos h2]

theorem eventOf_window (h : ¬ a < 0x4000) (h2 : a < 0x6000) : eventOf k a v = [⟨k, a, v⟩] := by
  rw [eventOf, if_pos (by bv_omega), recordedAddr, if_neg h]

end

/-- R77's ranges are the targets that record (R51, R77). -/
theorem eventOf_eq (k : EventKind) (a : Word) (v : Byte) : eventOf k a v = (busTarget a).events k a v := by
  unfold busTarget
  split_ifs with h2 h4 h14 hdma h15 h18 h6 h8
  · exact eventOf_below k v h2
  · exact eventOf_pixel k v h2 h4
  -- the audio bank below and at 0x4015, the DMA trigger, the input devices and the unmapped expansion
  iterate 5 exact eventOf_window k v h4 (by bv_omega)
  · exact eventOf_above k v h6
  · exact eventOf_above k v h6

/-- Settles O15: the targets that append an entry are those of 0x2000–0x5FFF. -/
theorem busAccessesAreRecorded : Obligations.BusAccessesAreRecorded := by
  intro a v s
  simp only [eventOf_eq]
  exact ⟨busRead_events_eq a s, busWrite_events_eq a v s⟩

/-! ## Reads after a write -/

/-- Two addresses show one cell exactly when the dispatch gives both the same cell of RAM or save storage. -/
theorem sameCell_iff (a b : Word) :
    sameCell a b = true ↔
      busTarget b = busTarget a ∧ ((∃ i, busTarget a = .ram i) ∨ ∃ i, busTarget a = .save i) := by
  unfold sameCell
  split
  · next i j ha hb => simpa [ha, hb] using eq_comm
  · next i j ha hb => simpa [ha, hb] using eq_comm
  · next hram hsave =>
    refine ⟨fun h => absurd h Bool.false_ne_true, ?_⟩
    rintro ⟨hb, ⟨i, ha⟩ | ⟨i, ha⟩⟩
    · exact (hram i i ha (hb.trans ha)).elim
    · exact (hsave i i ha (hb.trans ha)).elim

/-- A write at an address of no cell of RAM or save storage changes no byte of memory. -/
theorem peek_busWrite_noCell {a : Word} (b : Word) (v : Byte) (s : State)
    (h : ¬ ((∃ i, busTarget a = .ram i) ∨ ∃ i, busTarget a = .save i)) : (busWrite a v s).peek b = s.peek b := by
  unfold busWrite
  cases ht : busTarget a
  case ram i => exact absurd (.inl ⟨i, ht⟩) h
  case save i => exact absurd (.inr ⟨i, ht⟩) h
  all_goals exact peek_congr b rfl rfl rfl rfl

/-- A write sets the byte at the addresses that show its cell, and at no other (R52, R58, R67). -/
theorem peek_busWrite (a b : Word) (v : Byte) (s : State) :
    (busWrite a v s).peek b = if sameCell a b then v else s.peek b := by
  split
  · next h =>
    obtain ⟨ht, hc⟩ := (sameCell_iff a b).mp h
    exact peek_busWrite_same v s ht hc
  · next h =>
    by_cases hc : (∃ i, busTarget a = .ram i) ∨ ∃ i, busTarget a = .save i
    · exact peek_busWrite_other v s fun ht => h ((sameCell_iff a b).mpr ⟨ht, hc⟩)
    · exact peek_busWrite_noCell b v s hc

theorem storable_of_sameCell {a b : Word} (h : sameCell a b = true) : storable b = true := by
  obtain ⟨ht, hc⟩ := (sameCell_iff a b).mp h
  rcases hc with ⟨i, hi⟩ | ⟨i, hi⟩ <;> rw [storable, ht, hi]

/-- Settles O16: a read of a cell is its Peek, and Peek after a write is `peek_busWrite`. -/
theorem readsReturnTheLastWrite : Obligations.ReadsReturnTheLastWrite := by
  intro a b v s
  constructor
  · intro h
    rw [busRead_of_storable (storable_of_sameCell h), peek_busWrite, if_pos h]
  · intro h hb
    simp [busRead_of_storable hb, peek_busWrite, h]

/-! ## 16-bit reads -/

/-- Settles O17: the high byte's address is `a + 1` for Read16, and `nextInPage a` for Read16PW. -/
theorem sixteenBitReads : Obligations.SixteenBitReads := by
  intro a s
  have hnext : BitVec.ofNat 16 ((a.toNat + 1) % 0x10000) = a + 1 := by bv_omega
  rw [hnext, ← nextInPage_eq]
  exact ⟨rfl, rfl⟩

end Sys2Proof.Machine
end
section
/-!
PROOFS of the bus's statements, 2: the peripherals between steps (spec/20_memory.md R72, spec/60_exceptions.md R350).
-/

namespace Sys2Proof.Machine

/-- What peripherals may have done to a core on the way from `s` to `t` (R72). -/
structure PeriphFrame (allowed : List Word) (s t : State) : Prop where
  rest : t = { s with ram := t.ram, sram := t.sram, apu := t.apu }
  peek : ∀ b, (∀ a ∈ allowed, sameCell a b = false) → t.peek b = s.peek b
  apu : ∀ k, (∀ a ∈ allowed, busTarget a ≠ .audio k) → Memory.read t.apu k = Memory.read s.apu k

namespace PeriphFrame

variable {allowed : List Word} {s t u : State}

theorem refl (s : State) : PeriphFrame allowed s s := ⟨rfl, fun _ _ => rfl, fun _ _ => rfl⟩

theorem trans (h : PeriphFrame allowed s t) (g : PeriphFrame allowed t u) : PeriphFrame allowed s u where
  rest := g.rest.trans (congrArg (fun w : State => { w with ram := u.ram, sram := u.sram, apu := u.apu }) h.rest)
  peek b hb := (g.peek b hb).trans (h.peek b hb)
  apu k hk := (g.apu k hk).trans (h.apu k hk)

/-- One byte stays in the frame (R72). -/
theorem write (s : State) (w : Word × Byte) : PeriphFrame allowed s (periphWrite allowed s w) :=
  have ⟨rest, peek, apu⟩ := periphWrite_frame allowed s w
  ⟨rest, peek, apu⟩

theorem writes (ws : List (Word × Byte)) (s : State) :
    PeriphFrame allowed s (ws.foldl (periphWrite allowed) s) := by
  induction ws generalizing s with
  | nil => exact refl s
  | cons w ws ih => exact (write s w).trans (ih _)

theorem runAgent (ag : Agent) (n k : Nat) (s : State) :
    PeriphFrame allowed s (Machine.runAgent allowed ag n k s) := by
  induction n generalizing k s with
  | zero => exact refl s
  | succ n ih => exact (writes (ag k s) s).trans (ih (k + 1) _)

end PeriphFrame

/-- Settles O60: the frame of one byte's write, carried through both agents' steps. -/
theorem peripheralsWriteOnlyWhereAllowed : Obligations.PeripheralsWriteOnlyWhereAllowed := by
  intro d pixel audio n s
  have hpixel := PeriphFrame.runAgent (allowed := d.periphWritable) (pixel d.image) (d.ppuRatio * n) 0 s
  obtain ⟨rest, peek, apu⟩ := hpixel.trans (PeriphFrame.runAgent audio (apuSteps d.apuRatio n) 0 _)
  exact ⟨rest, peek, apu⟩

end Sys2Proof.Machine
end
section
/-!
PROOFS of the bus's statements, 3: the trace (spec/20_memory.md R79, spec/60_exceptions.md R344, R345). Where the bytes are
cells, Peek shows what the step decodes, resolves and reads.
-/

namespace Sys2Proof.Machine

/-! ## The bytes of the instruction -/

theorem desc_len_le_three (i : Instr) : i.desc.len ≤ 3 := by
  cases i <;> exact Nat.le_of_ble_eq_true rfl

/-- The entries of a valid configuration are valid (R103). -/
theorem undefEntry_valid {cfg : Config} (h : cfg.valid = true) {op : Byte} {e : UndefEntry}
    (he : undefEntry cfg op = some e) : 1 ≤ e.len ∧ e.len ≤ 3 ∧ 1 ≤ e.cycles := by
  simp only [Config.valid, Bool.and_eq_true, List.all_eq_true] at h
  have hv := h.2 e (List.mem_of_find?_eq_some he)
  simpa [UndefEntry.valid, and_assoc] using hv

/-- A valid configuration gives no opcode value more than three bytes (R98, R103). -/
theorem instrLen_le_three {cfg : Config} (h : cfg.valid = true) (i : Instr) : instrLen cfg i ≤ 3 := by
  unfold instrLen
  split
  · split
    · next e he => exact (undefEntry_valid h he).2.1
    · exact desc_len_le_three i
  · exact desc_len_le_three i
  · exact desc_len_le_three i

/-- At most three bytes from PC on are the first of the three bytes that the decoder is given. -/
theorem peek_range (s : State) {n : Nat} (hn : n ≤ 3) :
    ((List.range n).map fun k => s.peek (s.pc + BitVec.ofNat 16 k))
      = [s.peek s.pc, s.peek (s.pc + 1), s.peek (s.pc + 2)].take n := by
  have hthree : ((List.range 3).map fun k => s.peek (s.pc + BitVec.ofNat 16 k))
      = [s.peek s.pc, s.peek (s.pc + 1), s.peek (s.pc + 2)] := by
    simp [List.range_succ]
  rw [← hthree, ← List.map_take, List.take_range, Nat.min_eq_left hn]

/-- Three bytes always begin a whole instruction, the one that `decodeOp` says (R97). -/
theorem decodeOp_of_decode {op b1 b2 : Byte} {i : Instr} {rest : List Byte}
    (h : decode [op, b1, b2] = .ok (i, rest)) : decodeOp op b1 b2 = i := by
  simp only [decode] at h
  split at h
  · cases h
  · injection h with h
    exact congrArg Prod.fst h

/-! ## The effective address -/

theorem storable_zext16 (b : Byte) : storable (zext16 b) = true := by
  simp only [storable, busTarget_zext16]

/-- A pointer in cells is read by Peek, and the reads leave the state (R63, R79). -/
theorem read16PW_of_storable {a : Word} (h : storable a = true) (h2 : storable (nextInPage a) = true) (s : State) :
    read16PW a s = (s.peek16PW a, s) := by
  simp only [read16PW, busRead_of_storable h, busRead_of_storable h2, State.peek16PW]

theorem read16PW_zeroPage (b : Byte) (s : State) : read16PW (zext16 b) s = (s.peek16PW (zext16 b), s) :=
  read16PW_of_storable (storable_zext16 b) (nextInPage_zext16 b ▸ storable_zext16 (b + 1)) s

/-- Where JMP's pointer is in cells, the annotation's address is the one that the step resolves, without a change to the
state (R136 to R138, R345). -/
theorem resolve_eq_peekEA (m : AddrMode) (s : State)
    (h : ∀ w, m = .indirect w → storable w = true ∧ storable (nextInPage w) = true) :
    (resolve m s).ea = peekEA m s ∧ (resolve m s).state = s := by
  cases m
  case indirect w =>
    obtain ⟨hlo, hhi⟩ := h w rfl
    simp only [resolve, peekEA, read16PW_of_storable hlo hhi, and_self]
  case indexedIndirect b => simp only [resolve, peekEA, read16PW_zeroPage, and_self]
  case indirectIndexed b => simp only [resolve, peekEA, read16PW_zeroPage, and_self]
  all_goals exact ⟨rfl, rfl⟩

/-- Only JMP has the indirect mode (R99). -/
theorem eq_jmpInd_of_indirect {i : Instr} {w : Word} (h : i.addrMode = .indirect w) : i = .jmpInd w := by
  cases i <;> cases h
  rfl

/-! ## The statement -/

/-- Where JMP's pointer is in cells, the trace shows the address that the step resolves, and resolution leaves the state. -/
theorem trace_ea (s : State) {i : Instr} (hi : s.peekInstr = i)
    (hj : ∀ w, i = .jmpInd w → storable w = true ∧ storable (wordOf (hi8 w) (lo8 w + 1)) = true) :
    (trace s).ea = eaOf i s ∧ (resolve i.addrMode s).state = s := by
  subst hi
  have h := resolve_eq_peekEA s.peekInstr.addrMode s fun w hw => by
    rw [nextInPage_eq]
    exact hj w (eq_jmpInd_of_indirect hw)
  exact ⟨h.1.symm, h.2⟩

/-- Settles O8: Peek at PC shows the decoded instruction, and its annotation shows what `resolve` and `operand` give. -/
theorem traceShowsTheNextInstruction : Obligations.TraceShowsTheNextInstruction := by
  intro s i rest hv _ _ _ hd
  have hi : s.peekInstr = i := decodeOp_of_decode hd
  have hbytes : (trace s).bytes = _ := peek_range s (instrLen_le_three hv s.peekInstr)
  rw [hi] at hbytes
  refine ⟨rfl, hbytes, congrArg (fun j : Instr => mnemonicText j.mnemonic) hi, congrArg Instr.addrMode hi, rfl, rfl, rfl, rfl, rfl, fun hj => ?_⟩
  obtain ⟨hea, hstate⟩ := trace_ea s hi hj
  have hshown : (trace s).shown = peekOperand (eaOf i s) s := congrArg (peekOperand · s) hea
  refine ⟨hea, fun a ha hs => ?_, fun a v ha => ?_, fun ha => ?_⟩
  · rw [hshown, operandOf, hstate, ha, operand, busRead_of_storable hs]
    rfl
  · rw [hshown, ha]
    rfl
  · rw [hshown, ha]
    rfl

end Sys2Proof.Machine
end
section
/-!
PROOFS of the encoding statements, 1: the opcode map (spec/30_encoding.md R91, R95 to R100, R103). Every instruction's
opcode value has its descriptor and its cell, and what an instruction resolves agrees with its descriptor.
-/

namespace Sys2Proof.Machine

open Laws Claims

/-! ## The family Encoded, for every instruction -/

/-- The opcode map agrees with every instruction's encoding (R98, R99): `Laws` proves it for each constructor. -/
theorem encoded (i : Instr) : Encoded.Statement i :=
  Instr.rec
    Encoded.oraIndX Encoded.sloIndX Encoded.nopZp04 Encoded.oraZp Encoded.aslZp Encoded.sloZp Encoded.oraImm
    Encoded.nopAbs0C Encoded.oraAbs Encoded.aslAbs Encoded.sloAbs Encoded.bpl Encoded.oraIndY Encoded.sloIndY
    Encoded.nopZpX14 Encoded.oraZpX Encoded.aslZpX Encoded.sloZpX Encoded.oraAbsY Encoded.sloAbsY Encoded.nopAbsX1C
    Encoded.oraAbsX Encoded.aslAbsX Encoded.sloAbsX Encoded.jsrAbs Encoded.andIndX Encoded.rlaIndX Encoded.bitZp
    Encoded.andZp Encoded.rolZp Encoded.rlaZp Encoded.andImm Encoded.bitAbs Encoded.andAbs Encoded.rolAbs
    Encoded.rlaAbs Encoded.bmi Encoded.andIndY Encoded.rlaIndY Encoded.nopZpX34 Encoded.andZpX Encoded.rolZpX
    Encoded.rlaZpX Encoded.andAbsY Encoded.rlaAbsY Encoded.nopAbsX3C Encoded.andAbsX Encoded.rolAbsX Encoded.rlaAbsX
    Encoded.eorIndX Encoded.sreIndX Encoded.nopZp44 Encoded.eorZp Encoded.lsrZp Encoded.sreZp Encoded.eorImm
    Encoded.jmpAbs Encoded.eorAbs Encoded.lsrAbs Encoded.sreAbs Encoded.bvc Encoded.eorIndY Encoded.sreIndY
    Encoded.nopZpX54 Encoded.eorZpX Encoded.lsrZpX Encoded.sreZpX Encoded.eorAbsY Encoded.sreAbsY Encoded.nopAbsX5C
    Encoded.eorAbsX Encoded.lsrAbsX Encoded.sreAbsX Encoded.adcIndX Encoded.rraIndX Encoded.nopZp64 Encoded.adcZp
    Encoded.rorZp Encoded.rraZp Encoded.adcImm Encoded.jmpInd Encoded.adcAbs Encoded.rorAbs Encoded.rraAbs
    Encoded.bvs Encoded.adcIndY Encoded.rraIndY Encoded.nopZpX74 Encoded.adcZpX Encoded.rorZpX Encoded.rraZpX
    Encoded.adcAbsY Encoded.rraAbsY Encoded.nopAbsX7C Encoded.adcAbsX Encoded.rorAbsX Encoded.rraAbsX Encoded.staIndX
    Encoded.saxIndX Encoded.styZp Encoded.staZp Encoded.stxZp Encoded.saxZp Encoded.styAbs Encoded.staAbs
    Encoded.stxAbs Encoded.saxAbs Encoded.bcc Encoded.staIndY Encoded.styZpX Encoded.staZpX Encoded.stxZpY
    Encoded.saxZpY Encoded.staAbsY Encoded.staAbsX Encoded.ldyImm Encoded.ldaIndX Encoded.ldxImm Encoded.laxIndX
    Encoded.ldyZp Encoded.ldaZp Encoded.ldxZp Encoded.laxZp Encoded.ldaImm Encoded.ldyAbs Encoded.ldaAbs
    Encoded.ldxAbs Encoded.laxAbs Encoded.bcs Encoded.ldaIndY Encoded.laxIndY Encoded.ldyZpX Encoded.ldaZpX
    Encoded.ldxZpY Encoded.laxZpY Encoded.ldaAbsY Encoded.ldyAbsX Encoded.ldaAbsX Encoded.ldxAbsY Encoded.laxAbsY
    Encoded.cpyImm Encoded.cmpIndX Encoded.dcpIndX Encoded.cpyZp Encoded.cmpZp Encoded.decZp Encoded.dcpZp
    Encoded.cmpImm Encoded.cpyAbs Encoded.cmpAbs Encoded.decAbs Encoded.dcpAbs Encoded.bne Encoded.cmpIndY
    Encoded.dcpIndY Encoded.nopZpXD4 Encoded.cmpZpX Encoded.decZpX Encoded.dcpZpX Encoded.cmpAbsY Encoded.dcpAbsY
    Encoded.nopAbsXDC Encoded.cmpAbsX Encoded.decAbsX Encoded.dcpAbsX Encoded.cpxImm Encoded.sbcIndX Encoded.isbIndX
    Encoded.cpxZp Encoded.sbcZp Encoded.incZp Encoded.isbZp Encoded.sbcImm Encoded.sbcImmEB Encoded.cpxAbs
    Encoded.sbcAbs Encoded.incAbs Encoded.isbAbs Encoded.beq Encoded.sbcIndY Encoded.isbIndY Encoded.nopZpXF4
    Encoded.sbcZpX Encoded.incZpX Encoded.isbZpX Encoded.sbcAbsY Encoded.isbAbsY Encoded.nopAbsXFC Encoded.sbcAbsX
    Encoded.incAbsX Encoded.isbAbsX Encoded.brk Encoded.undef02 Encoded.php Encoded.aslAcc Encoded.undef0B
    Encoded.undef12 Encoded.clc Encoded.nop1A Encoded.undef22 Encoded.plp Encoded.rolAcc Encoded.undef2B
    Encoded.undef32 Encoded.sec Encoded.nop3A Encoded.rti Encoded.undef42 Encoded.pha Encoded.lsrAcc Encoded.undef4B
    Encoded.undef52 Encoded.cli Encoded.nop5A Encoded.rts Encoded.undef62 Encoded.pla Encoded.rorAcc Encoded.undef6B
    Encoded.undef72 Encoded.sei Encoded.nop7A Encoded.nopImm80 Encoded.undef82 Encoded.dey Encoded.undef89
    Encoded.txa Encoded.undef8B Encoded.undef92 Encoded.undef93 Encoded.tya Encoded.txs Encoded.undef9B
    Encoded.undef9C Encoded.undef9E Encoded.undef9F Encoded.tay Encoded.tax Encoded.undefAB Encoded.undefB2
    Encoded.clv Encoded.tsx Encoded.undefBB Encoded.undefC2 Encoded.iny Encoded.dex Encoded.undefCB Encoded.undefD2
    Encoded.cld Encoded.nopDA Encoded.undefE2 Encoded.inx Encoded.nop Encoded.undefF2 Encoded.sed Encoded.nopFA
    i

/-- An instruction's descriptor is its opcode value's (R90, R92). -/
theorem descOf_opcode (i : Instr) : descOf i.opcode = i.desc := (encoded i).1

/-- The encoding is as long as the descriptor says (R98). -/
theorem encode_length (i : Instr) : (encode i).length = i.desc.len := (encoded i).2.1

/-- The opcode value's cell builds the instruction from its operand bytes (R99). -/
theorem builderOf_opcode (i : Instr) : Builds (builderOf i.opcode) i := (encoded i).2.2

/-- An instruction has its opcode byte at least (R91). -/
theorem desc_len_pos (i : Instr) : 1 ≤ i.desc.len := by
  rw [← encode_length]
  exact Nat.succ_pos _

/-! ## The classes and the penalties -/

/-- The undefined class is the undefined mnemonic's (R96, R100). -/
theorem cls_undefined_iff (i : Instr) : i.desc.cls = .undefined ↔ i.mnemonic = .undefined :=
  decide_eq_decide.mp (by cases i <;> rfl)

/-- The undefined opcode values are R100's list. -/
theorem descOf_cls_undefined (op : Byte) : (descOf op).cls = .undefined ↔ op ∈ undefinedDefaults.map Prod.fst :=
  (cls_undefined_iff _).trans (descOf_mnemonic_undefined op)

/-- The page penalty is that of R95's list. -/
theorem descOf_penalty (op : Byte) : (descOf op).penalty = if op ∈ penaltyOpcodes then 1 else 0 := by
  revert op
  decide +kernel

/-- Settles O7: the 256 descriptors, counted by class, and compared with the two lists. -/
theorem opcodeClassesAndPenalties : Obligations.OpcodeClassesAndPenalties :=
  ⟨by decide +kernel, by decide +kernel, rfl, rfl, fun op => ⟨descOf_cls_undefined op, descOf_penalty op⟩⟩

/-! ## Modes, lengths and cycles -/

/-- The mode that a step resolves agrees with the descriptor: a defined instruction has the descriptor's mode, which gives
its length (R91, R98); an undefined one resolves nothing and has no penalty (R122, R312). -/
def ModeAgrees (i : Instr) : Prop :=
  match i.desc.cls with
  | .undefined => i.addrMode = .implied ∧ i.desc.penalty = 0
  | .documented | .undocumented => i.addrMode.kind = i.desc.mode ∧ i.desc.len = i.desc.mode.len

theorem modeAgrees (i : Instr) : ModeAgrees i := by
  cases i <;> exact And.intro rfl rfl

theorem mode_of_defined {i : Instr} (h : i.desc.cls ≠ .undefined) :
    i.addrMode.kind = i.desc.mode ∧ i.desc.len = i.desc.mode.len := by
  have hm := modeAgrees i
  unfold ModeAgrees at hm
  cases hc : i.desc.cls <;> rw [hc] at hm
  · exact hm
  · exact hm
  · exact absurd hc h

theorem mode_of_undefined {i : Instr} (h : i.desc.cls = .undefined) : i.addrMode = .implied ∧ i.desc.penalty = 0 := by
  have hm := modeAgrees i
  unfold ModeAgrees at hm
  rwa [h] at hm

/-- A valid configuration gives every opcode value at least one byte (R98, R103). -/
theorem instrLen_pos {cfg : Config} (h : cfg.valid = true) (i : Instr) : 1 ≤ instrLen cfg i := by
  unfold instrLen
  split
  · split
    · next e he => exact (undefEntry_valid h he).1
    · exact desc_len_pos i
  · exact desc_len_pos i
  · exact desc_len_pos i

/-- Settles O9: the modes constructor by constructor, the lengths and cycles by the configuration's entry or the table. -/
theorem lengthsAndCyclesAreInRange : Obligations.LengthsAndCyclesAreInRange := fun i =>
  ⟨mode_of_defined, mode_of_undefined, fun _ h => ⟨instrLen_pos h i, instrLen_le_three h i, baseCycles_pos h i⟩⟩

end Sys2Proof.Machine
end
section
/-!
PROOFS of the encoding statements, 2: decoding and encoding (spec/30_encoding.md R90, R91, R97). The decoder's success is
said once; the round trips follow from the opcode map's agreement with the encodings, in each direction.
-/

namespace Sys2Proof.Machine

open Laws

/-! ## What the decoder answers -/

/-- The decoder answers exactly when the descriptor's length is there: the opcode value's instruction over the next two
bytes, and what follows the length (R97, R98). -/
theorem decode_cons_eq_ok {op : Byte} {tail rest : List Byte} {i : Instr} :
    decode (op :: tail) = .ok (i, rest) ↔
      (descOf op).len - 1 ≤ tail.length ∧ decodeOp op (tail.getD 0 0) (tail.getD 1 0) = i ∧
        tail.drop ((descOf op).len - 1) = rest := by
  rw [decode]
  split
  · next h => exact ⟨nofun, fun hok => absurd hok.1 (Nat.not_le_of_lt h)⟩
  · next h => simp [Nat.le_of_not_lt h]

/-! ## Decoding an encoding -/

/-- A cell that builds an instruction builds it from every list that the operand bytes begin (R91, R93). -/
theorem instr_of_builds {c : Builder} {i : Instr} (h : Builds c i) (more : List Byte) :
    c.instr ((i.addrMode.bytes ++ more).getD 0 0) ((i.addrMode.bytes ++ more).getD 1 0) = i := by
  cases c with
  | bare j => exact h.1
  | byte f =>
    obtain ⟨b, hf, hb⟩ := h
    rw [hb]
    exact hf
  | word f =>
    obtain ⟨w, hf, hb⟩ := h
    rw [hb]
    exact (congrArg f (wordOf_hi8_lo8 w)).trans hf

/-- Settles O4: the encoding is of the descriptor's length, and its cell builds the instruction from its operand bytes. -/
theorem decodeAfterEncode : Obligations.DecodeAfterEncode := by
  intro i rest
  obtain ⟨skipped, henc⟩ : ∃ skipped, encode i = i.opcode :: (i.addrMode.bytes ++ skipped) := ⟨_, rfl⟩
  have hlen : i.desc.len - 1 = (i.addrMode.bytes ++ skipped).length := by
    rw [← encode_length, henc, List.length_cons, Nat.add_sub_cancel]
  rw [henc, List.cons_append, decode_cons_eq_ok, descOf_opcode, hlen]
  refine ⟨(List.sublist_append_left _ rest).length_le, ?_, List.drop_left⟩
  rw [List.append_assoc]
  exact instr_of_builds (builderOf_opcode i) _

/-! ## Encoding what was decoded -/

/-- The operand bytes of what a cell builds are the first bytes that it was given (R91, R93). -/
theorem bytes_decodeOp {op : Byte} {tail : List Byte} {i : Instr} (hi : decodeOp op (tail.getD 0 0) (tail.getD 1 0) = i)
    (hlen : i.addrMode.bytes.length ≤ tail.length) : i.addrMode.bytes = tail.take i.addrMode.bytes.length := by
  have hb := (builderOf_cell op (tail.getD 0 0) (tail.getD 1 0)).2.2
  rw [← decodeOp, hi] at hb
  cases hc : builderOf op <;> rw [hc] at hb
  case bare => rw [hb]; rfl
  case byte =>
    rw [hb] at hlen ⊢
    match tail, hlen with
    | b :: _, _ => rfl
  case word =>
    rw [hb, lo8_wordOf, hi8_wordOf] at hlen ⊢
    match tail, hlen with
    | b :: b' :: _, _ => rfl

/-- The operand bytes fill a mode's length, unless the byte is skipped (R91, R292). -/
theorem bytes_length {m : AddrMode} (h : m ≠ .immediateSkip) : m.bytes.length = m.kind.len - 1 := by
  cases m
  case immediateSkip => exact absurd rfl h
  all_goals rfl

/-- A defined instruction that skips no byte encodes to its opcode value and its operand bytes alone (R91). -/
theorem encode_of_no_skip {i : Instr} (hs : i.addrMode ≠ .immediateSkip) (hu : i.mnemonic ≠ .undefined) :
    i.addrMode.bytes.length = i.desc.len - 1 ∧ encode i = i.opcode :: i.addrMode.bytes := by
  obtain ⟨hkind, hlen⟩ := mode_of_defined (mt (cls_undefined_iff i).mp hu)
  have hbytes : i.addrMode.bytes.length = i.desc.len - 1 := by rw [bytes_length hs, hkind, hlen]
  refine ⟨hbytes, ?_⟩
  rw [encode, hbytes, Nat.sub_self, List.replicate_zero, List.append_nil]

/-- The opcode value and the descriptor of what the opcode's cell builds (R90). -/
theorem decodeOp_opcode_desc {op b1 b2 : Byte} {i : Instr} (h : decodeOp op b1 b2 = i) :
    i.opcode = op ∧ i.desc = descOf op := by
  obtain ⟨hop, hdesc, -⟩ := builderOf_cell op b1 b2
  exact h ▸ ⟨hop, hdesc⟩

/-- Settles O5: the decoder cuts the list at the descriptor's length, and the operand bytes follow the opcode. -/
theorem encodeAfterDecode : Obligations.EncodeAfterDecode := by
  intro bs i rest h
  cases bs with
  | nil => cases h
  | cons op tail =>
    obtain ⟨hlen, hi, rfl⟩ := decode_cons_eq_ok.mp h
    obtain ⟨rfl, hdesc⟩ := decodeOp_opcode_desc hi
    rw [← hdesc] at hlen ⊢
    have htake : (i.opcode :: tail).take i.desc.len = i.opcode :: tail.take (i.desc.len - 1) :=
      List.take_cons (desc_len_pos i)
    have htail : (tail.take (i.desc.len - 1)).length = i.desc.len - 1 := List.length_take_of_le hlen
    rw [htake]
    refine ⟨?_, rfl, ?_, fun hs hu => ?_⟩
    · rw [List.cons_append, List.take_append_drop]
    · rw [encode_length, List.length_cons, htail, Nat.sub_add_cancel (desc_len_pos i)]
    · obtain ⟨hbytes, henc⟩ := encode_of_no_skip hs hu
      rw [← hbytes] at hlen ⊢
      rw [henc, ← bytes_decodeOp hi hlen]

/-! ## Totality, and words of the map -/

/-- Settles O6: three bytes hold every descriptor's length, and the cell's instruction has the cell's opcode value. -/
theorem everyByteBeginsAnInstruction : Obligations.EveryByteBeginsAnInstruction := by
  intro op b1 b2 rest
  have hlen : (descOf op).len ≤ 3 := desc_len_le_three _
  have hok : (descOf op).len - 1 ≤ (b1 :: b2 :: rest).length := by
    simp only [List.length_cons]
    omega
  exact ⟨_, _, decode_cons_eq_ok.mpr ⟨hok, rfl, rfl⟩, decodeOp_opcode_desc rfl⟩

/-- Settles O3: each word is looked up in the grid. -/
theorem sampleWordsDecode : Obligations.SampleWordsDecode :=
  ⟨rfl, rfl, rfl, rfl, rfl, rfl, rfl, rfl, rfl, rfl⟩

end Sys2Proof.Machine
end
section
/-!
PROOFS of the encoding statements, 3: the undefined opcode values (spec/30_encoding.md R104, spec/45_undocumented.md
R312). The opcode map gives each no operand, so its step is its diagnostic and the phases around it; the configuration's
entry, or else the table, gives its length and cycles.
-/

namespace Sys2Proof.Machine

open Laws Claims

/-! ## Length and cycles -/

/-- The opcode value of an undefined instruction is one of the 29 (R100). -/
theorem opcode_mem_defaults {i : Instr} (h : i.mnemonic = .undefined) : i.opcode ∈ undefinedDefaults.map Prod.fst := by
  rw [← descOf_mnemonic_undefined, descOf_opcode]
  exact h

/-- The length and the cycles of an undefined value are its entry's where the configuration has one (R103, R104). -/
theorem undefined_len_cycles {cfg : Config} {i : Instr} (h : i.mnemonic = .undefined) {e : UndefEntry}
    (he : undefEntry cfg i.opcode = some e) : instrLen cfg i = e.len ∧ baseCycles cfg i = e.cycles := by
  have hc := (cls_undefined_iff i).mpr h
  simp [instrLen, baseCycles, hc, he]

/-- The length and the cycles of an undefined value without an entry are the table's (R104). -/
theorem undefined_len_cycles_default {cfg : Config} {i : Instr} (h : i.mnemonic = .undefined)
    (he : undefEntry cfg i.opcode = none) : instrLen cfg i = i.desc.len ∧ baseCycles cfg i = i.desc.cycles := by
  have hc := (cls_undefined_iff i).mpr h
  simp [instrLen, baseCycles, hc, he]

/-- The table's length and cycles of the undefined opcode values are R104's defaults. -/
theorem descOf_eq_default : ∀ row ∈ undefinedDefaults, (row.1, (descOf row.1).len, (descOf row.1).cycles) = row := by
  decide +kernel

/-- The table's row of an undefined value is one of R104's defaults. -/
theorem desc_mem_defaults {i : Instr} (h : i.mnemonic = .undefined) :
    (i.opcode, i.desc.len, i.desc.cycles) ∈ undefinedDefaults := by
  obtain ⟨row, hrow, hop⟩ := List.mem_map.mp (opcode_mem_defaults h)
  rwa [← descOf_opcode, ← hop, descOf_eq_default row hrow]

/-- The entry of an opcode value that has just one is the one found (R103). -/
theorem undefEntry_of_unique {cfg : Config} {op : Byte} {e : UndefEntry} (he : e ∈ cfg.undef) (hop : e.opcode = op)
    (huniq : ∀ f ∈ cfg.undef, f.opcode = op → f = e) : undefEntry cfg op = some e := by
  cases hf : undefEntry cfg op with
  | none => exact absurd (beq_iff_eq.mpr hop) (List.find?_eq_none.mp hf e he)
  | some f =>
    have hfop : (f.opcode == op) = true := List.find?_some (p := fun f : UndefEntry => f.opcode == op) hf
    rw [huniq f (List.mem_of_find?_eq_some hf) (beq_iff_eq.mp hfop)]

/-! ## The fetch and the step -/

/-- The fetch reads as many operand bytes as the encoding has (R78, R91). -/
theorem builderOf_opcode_reads (i : Instr) : (builderOf i.opcode).reads = i.addrMode.bytes.length := by
  have h := builderOf_opcode i
  cases hc : builderOf i.opcode <;> rw [hc] at h
  case bare => rw [h.2]; rfl
  case byte =>
    obtain ⟨_, -, hb⟩ := h
    rw [hb]; rfl
  case word =>
    obtain ⟨_, -, hb⟩ := h
    rw [hb]; rfl

/-- An undefined value records its diagnostic, advances and accounts, and changes nothing else (R312). -/
theorem exec_undefined {i : Instr} (h : i.mnemonic = .undefined) (s : State) :
    exec i s = .next { s with
      pc := s.pc + BitVec.ofNat 16 (instrLen s.cfg i)
      cyc := s.cyc + baseCycles s.cfg i
      diag := s.diag ++ [⟨i.opcode, s.pc⟩] } := by
  have hne : i ≠ .rts := by
    rintro rfl
    cases h
  have hmode := (mode_of_undefined ((cls_undefined_iff i).mpr h)).1
  have hact : actionOf i s.pc = undefinedOpcode i.opcode s.pc := by rw [actionOf, h]
  have hbefore : beforeExecute i s = { s with
      pc := s.pc + BitVec.ofNat 16 (instrLen s.cfg i), cyc := s.cyc + baseCycles s.cfg i } := by
    rw [beforeExecute, hmode]
    rfl
  rw [exec_eq_of_ne_rts hne, hact, hbefore]
  rfl

/-- Settles O49: the map's undefined cells are R312's list, and the step of each is its diagnostic. -/
theorem undefinedOpcodesRecordADiagnostic : Obligations.UndefinedOpcodesRecordADiagnostic := by
  refine ⟨fun row hrow => ?_, fun i s h =>
    ⟨opcode_mem_defaults h, ?_, exec_undefined h s, fun hno => ?_, fun e he hop huniq => ?_⟩⟩
  · have hm := (descOf_mnemonic_undefined row.1).mpr (List.mem_map_of_mem hrow)
    exact ⟨decodeOp row.1 0 0, hm, (decodeOp_opcode_desc rfl).1⟩
  · rw [builderOf_opcode_reads, (mode_of_undefined ((cls_undefined_iff i).mpr h)).1]
    rfl
  · have hnone : undefEntry s.cfg i.opcode = none :=
      List.find?_eq_none.mpr fun e he heq => hno e he (beq_iff_eq.mp heq)
    obtain ⟨hl, hc⟩ := undefined_len_cycles_default h hnone
    rw [hl, hc]
    exact desc_mem_defaults h
  · exact undefined_len_cycles h (undefEntry_of_unique he hop huniq)

end Sys2Proof.Machine
end
section
/-!
PROOFS of the addressing and stack statements (spec/40_step_and_addressing.md R127 to R140, R143): the resolved addresses
as numbers, pointers in page zero as two peeked bytes, and pushes as stores in the stack page.
-/

namespace Sys2Proof.Machine

open Claims

/-! ## Indexed addresses on numbers -/

/-- Indexing in page zero wraps at 8 bits (R131, R132). -/
theorem toNat_zext16_add (b r : Byte) : (zext16 (b + r)).toNat = (b.toNat + r.toNat) % 256 := by
  rw [toNat_zext16, BitVec.toNat_add]

/-- Indexing a word wraps at 16 bits (R134, R135). -/
theorem toNat_add_zext16 (w : Word) (r : Byte) : (w + zext16 r).toNat = (w.toNat + r.toNat) % 0x10000 := by
  rw [BitVec.toNat_add, toNat_zext16]

/-- The page-crossing test compares the pages (R15, R140). -/
theorem pageCrossed_eq (base ea : Word) : pageCrossed base ea = decide (ea.toNat / 256 ≠ base.toNat / 256) := by
  rw [Bool.eq_iff_iff, pageCrossed, bne_iff_ne, decide_eq_true_iff, ← toNat_hi8, ← toNat_hi8, Ne, Ne, BitVec.toNat_inj]

/-- A branch's target counts its signed offset from the next instruction, modulo 2^16 (R139). -/
theorem toNat_branchTarget (pc : Word) (b : Byte) :
    ((pc + 2 + sext16 b).toNat : Int) = ((pc.toNat : Int) + 2 + b.toInt) % 0x10000 := by
  have hoff : (sext16 b).toNat = (b.toInt % 0x10000).toNat := BitVec.toNat_ofInt _
  have hnext : (pc + 2).toNat = (pc.toNat + 2) % 0x10000 := BitVec.toNat_add pc 2
  rw [BitVec.toNat_add, hnext, hoff]
  omega

/-- Settles O18: each mode by its own arm of `resolve`. That the immediate byte comes with the fetch is log entry 9. -/
theorem directModesResolve : Obligations.DirectModesResolve := by
  intro s b w
  refine ⟨rfl, rfl, ⟨_, rfl, BitVec.toNat_add _ _⟩, ⟨_, rfl, toNat_zext16 b⟩, ⟨_, rfl, toNat_zext16_add b s.x⟩,
    ⟨_, rfl, toNat_zext16_add b s.y⟩, rfl, ⟨_, ?_, toNat_add_zext16 w s.x⟩, ⟨_, ?_, toNat_add_zext16 w s.y⟩,
    ⟨_, rfl, toNat_branchTarget s.pc b⟩⟩
  · simp only [resolve, pageCrossed_eq]
  · simp only [resolve, pageCrossed_eq]

/-! ## Pointers in page zero -/

/-- The byte at a zero-page offset, with the offset reduced to a byte. -/
theorem zeroPageByte_eq_peek {n : Nat} {p : Byte} (h : p.toNat = n % 256) (s : State) :
    zeroPageByte s n = s.peek (zext16 p) := by
  rw [zeroPageByte, ← h, BitVec.ofNat_toNat]

/-- A pointer at offset `n` of page zero: its low byte at `n`, its high byte at `n + 1`, both modulo 256 (R137, R138). -/
theorem toNat_peek16PW_zeroPage {n : Nat} {p : Byte} (h : p.toNat = n % 256) (s : State) :
    (s.peek16PW (zext16 p)).toNat = (zeroPageByte s n).toNat + 256 * (zeroPageByte s (n + 1)).toNat := by
  have hnext : (p + 1).toNat = (n + 1) % 256 := by bv_omega
  rw [State.peek16PW, toNat_wordOf, nextInPage_zext16, zeroPageByte_eq_peek h, zeroPageByte_eq_peek hnext]

/-- Settles O19: the pointers in page zero are peeked, and JMP's is read by Read16PW. -/
theorem indirectModesResolve : Obligations.IndirectModesResolve := by
  intro s b w
  refine ⟨⟨s.peek16PW (zext16 (b + s.x)), ?_, toNat_peek16PW_zeroPage (BitVec.toNat_add b s.x) s⟩,
    ⟨(s.peek16PW (zext16 b)).toNat, s.peek16PW (zext16 b) + zext16 s.y, ?_,
      toNat_peek16PW_zeroPage (Nat.mod_eq_of_lt b.isLt).symm s, toNat_add_zext16 _ s.y⟩, ?_⟩
  · simp only [resolve, read16PW_zeroPage]
  · simp only [resolve, read16PW_zeroPage, pageCrossed_eq]
  · rw [← nextInPage_eq]
    rfl

/-! ## The stack -/

/-- A bus write stores its byte in the cell of its address and in no other (R52 to R60). -/
theorem memoryStored_busWrite (a : Word) (v : Byte) (s : State) : MemoryStored s (busWrite a v s) a v := by
  refine ⟨fun b => peek_busWrite a b v s, fun k => ?_⟩
  unfold busWrite
  cases ht : busTarget a
  case audio i =>
    by_cases hk : k = i
    · subst hk
      exact (Memory.read_write_same _ _ _).trans (if_pos rfl).symm
    · exact (Memory.read_write_other _ _ hk).trans (if_neg fun h => hk (Target.audio.inj h).symm).symm
  all_goals exact (if_neg nofun).symm

/-- A push is a bus write at SP's address, and SP's own change is no store (R143). -/
theorem memoryStored_push (v : Byte) (s : State) : MemoryStored s (push v s) (stackAddr s.sp) v :=
  memoryStored_busWrite (stackAddr s.sp) v s

@[simp] theorem push_sp (v : Byte) (s : State) : (push v s).sp = s.sp - 1 := by
  rw [push_eq, State.setSp_sp]

/-- A pull is a Peek at the incremented SP, and leaves only SP changed (R79, R143). -/
theorem pull_eq_peek (s : State) : pull s = (s.peek (stackAddr (s.sp + 1)), s.setSp (s.sp + 1)) := by
  rw [pull_eq, State.peek, busTarget_stackAddr]

/-- A pull takes back what a push stored, and where (R143). -/
theorem pull_push (v : Byte) (s : State) : (pull (push v s)).1 = v ∧ (pull (push v s)).2.sp = s.sp := by
  rw [pull_eq, push_sp, BitVec.sub_add_cancel, push_eq]
  exact ⟨Memory.read_write_same _ _ _, rfl⟩

/-- Each push takes one from SP, modulo 256 (R143). -/
theorem pushAll_sp (bs : List Byte) (s : State) : (pushAll bs s).sp = s.sp - BitVec.ofNat 8 bs.length := by
  induction bs generalizing s with
  | nil => exact (BitVec.sub_zero _).symm
  | cons b bs ih =>
    have hrest : (pushAll (b :: bs) s).sp = s.sp - 1 - BitVec.ofNat 8 bs.length := by
      rw [← push_sp b s]
      exact ih (push b s)
    rw [hrest, List.length_cons]
    bv_omega

/-- Settles O20: the store and SP of one push, and SP after a list of them. -/
theorem pushesWrapTheStackPointer : Obligations.PushesWrapTheStackPointer := by
  intro s v bs
  obtain ⟨hbyte, hsp⟩ := pull_push v s
  refine ⟨memoryStored_push v s, ?_, pull_eq_peek s, hbyte, hsp, ?_, fun h => ?_, fun h => ?_⟩
  · rw [push_eq]
    rfl
  · rw [pushAll_sp, BitVec.toNat_sub, BitVec.toNat_ofNat]
    omega
  · rw [pushAll_sp, h]
    exact BitVec.sub_zero _
  · rw [pushAll_sp, h]
    rfl

end Sys2Proof.Machine
end
section
/-!
PROOFS of the step's statements (spec/40_step_and_addressing.md R120, R121, R126, spec/60_exceptions.md R332): the step is
exec of what the fetch decodes, and its result is the growth of CYC.
-/

namespace Sys2Proof.Machine

/-- A running core executes what it fetched (R120). -/
theorem step_of_running {s : State} (h : s.run = .running) : step s = exec (fetchInstr s).1 (fetchInstr s).2 := by
  rw [step, h]

/-- Where the three bytes at PC are cells, the fetch peeks them and changes nothing (R75, R79, R121). -/
theorem fetchInstr_of_storable {s : State} (h0 : storable s.pc = true) (h1 : storable (s.pc + 1) = true)
    (h2 : storable (s.pc + 2) = true) :
    fetchInstr s = (decodeOp (s.peek s.pc) (s.peek (s.pc + 1)) (s.peek (s.pc + 2)), s) := by
  simp only [fetchInstr, decodeOp, busRead_of_storable h0, busRead_of_storable h1, busRead_of_storable h2]
  cases builderOf (s.peek s.pc) <;> rfl

/-- Settles O1: the fetch of three cells, and the fetch in general by how many operand bytes the opcode value's cell reads. -/
theorem stepRunsTheDecodedInstruction : Obligations.StepRunsTheDecodedInstruction := by
  intro s hrun
  refine ⟨fun h0 h1 h2 i rest hd => ?_, ?_⟩
  · rw [step_of_running hrun, fetchInstr_of_storable h0 h1 h2, decodeOp_of_decode hd]
  · rw [step_of_running hrun, fetchInstr_eq]
    dsimp only
    cases builderOf (busRead s.pc s).1 <;> rfl

/-- Settles O59: the result follows RUN after the step, and a halted core takes none. -/
theorem stepReturnsItsCycles : Obligations.StepReturnsItsCycles := by
  intro s
  refine ⟨fun t h hrun => ?_, fun t h hrun => ?_, fun hrun => ?_⟩
  · simp only [stepResult, h, hrun]
  · simp only [stepResult, h, hrun]
  · simp only [stepResult, (noStepUnlessRunning s).1 hrun]

end Sys2Proof.Machine
end
section
/-!
PROOFS of the load, store and transfer statements (spec/41_load_store_transfer.md, spec/45_undocumented.md R297, R298). First
what every family of instructions needs: the Encoding lines against the opcode map, and the state in which an action updates
the registers. Then each family in one equation for `exec`, and the statements from the equations.
-/

namespace Sys2Proof.Machine

open Claims

/-! ## The Encoding lines -/

/-- A descriptor as the rules' Encoding lines write it (R92). -/
def descRow (d : Desc) : Byte × Mode × Nat × Nat × Nat := (d.opcode, d.mode, d.len, d.cycles, d.penalty)

/-- A defined instruction's row is its descriptor's: the step resolves the descriptor's mode (R91). -/
theorem rowOf_eq_descRow {i : Instr} (h : i.mnemonic ≠ .undefined) : rowOf i = descRow i.desc := by
  rw [rowOf, (mode_of_defined (mt (cls_undefined_iff i).mp h)).1]
  rfl

/-- Each defined opcode value is in the Encoding lines of its mnemonic. -/
theorem descRow_mem_rowsOf (op : Byte) :
    (descOf op).mnemonic ≠ .undefined → descRow (descOf op) ∈ rowsOf (descOf op).mnemonic := by
  revert op
  decide +kernel

/-- Each Encoding line is the row of its own opcode value, of the mnemonic it stands under. -/
theorem descOf_of_mem_rowsOf (m : Mnemonic) :
    ∀ row ∈ rowsOf m, (descOf row.1).mnemonic = m ∧ descRow (descOf row.1) = row := by
  cases m <;> decide +kernel

/-- The opcode map agrees with the Encoding lines of every mnemonic; the undefined opcode values have none (R312). -/
theorem encodedAs {m : Mnemonic} (h : m ≠ .undefined) : EncodedAs m := by
  constructor
  · rintro i rfl
    have hrow := descRow_mem_rowsOf i.opcode
    rw [descOf_opcode] at hrow
    rw [rowOf_eq_descRow h]
    exact hrow h
  · intro row hrow
    obtain ⟨hm, hdesc⟩ := descOf_of_mem_rowsOf m row hrow
    have hi : (decodeOp row.1 0 0).mnemonic = m := hm
    refine ⟨_, hi, ?_⟩
    rw [rowOf_eq_descRow (hi ▸ h)]
    exact hdesc

/-- The modes that resolve to a sentinel or to the immediate byte (R127 to R129). -/
def nonMemoryModes : List Mode := [.implied, .accumulator, .immediate]

/-- Every other mode resolves to an address (R130 to R139). -/
theorem eaOf_eq_mem {i : Instr} (h : i.addrMode.kind ∉ nonMemoryModes) (s : State) : ∃ a, eaOf i s = .mem a := by
  unfold eaOf
  cases hm : i.addrMode <;> rw [hm] at h
  case implied | accumulator | immediate => simp [nonMemoryModes, AddrMode.kind] at h
  all_goals exact ⟨_, rfl⟩

/-! ## The state in which an action updates the registers -/

/-- From `s`, the step of `i` has advanced PC and accounted, and has changed no register, flag, byte of memory or record. -/
structure Advanced (i : Instr) (s u : State) : Prop where
  registers : RegistersKept s u
  status : u.p = s.p
  next : NextInLine i s u
  memory : MemoryKept s u
  records : RecordsKept s u

theorem advanced_beforeExecute (i : Instr) (s : State) : Advanced i s (beforeExecute i s) where
  registers := by simp [RegistersKept]
  status := beforeExecute_p i s
  next := by simp [NextInLine, crossedOf]
  memory := ⟨fun b => by apply peek_congr <;> simp, beforeExecute_apu i s⟩
  records := by simp [RecordsKept]

/-- The state after the one read of the operand (R141). -/
def afterOperand (i : Instr) (s : State) : State := (operand (eaOf i s) (beforeExecute i s)).2

theorem advanced_afterOperand (i : Instr) (s : State) : Advanced i s (afterOperand i s) where
  registers := by simp [RegistersKept, afterOperand]
  status := by simp [afterOperand]
  next := by simp [NextInLine, afterOperand, crossedOf]
  memory := ⟨fun b => by apply peek_congr <;> simp [afterOperand], by simp [afterOperand]⟩
  records := by simp [RecordsKept, afterOperand]

/-- Resolution leaves the state, but for the reads of JMP's pointer (R127 to R139). -/
theorem resolve_state_of_ne_jmp {i : Instr} (h : i.mnemonic ≠ .jmp) (s : State) :
    (resolve i.addrMode s).state = s := by
  rcases resolve_state i.addrMode s with hs | ⟨w, hw, -⟩
  · exact hs
  · exact absurd (congrArg Instr.mnemonic (eq_jmpInd_of_indirect hw)) h

theorem beforeExecute_events_of_ne_jmp {i : Instr} (h : i.mnemonic ≠ .jmp) (s : State) :
    (beforeExecute i s).events = s.events := by
  rw [beforeExecute_events, resolve_state_of_ne_jmp h]

/-- Operand records the one access that it makes (R77, R141). -/
theorem operand_events (ea : EA) (s : State) :
    (operand ea s).2.events = s.events ++ eventAt .rd ea (operand ea s).1 := by
  cases ea
  case mem a => simpa only [operand, eventAt, eventOf_eq] using busRead_events_eq a s
  all_goals exact (List.append_nil _).symm

theorem afterOperand_events {i : Instr} (h : i.mnemonic ≠ .jmp) (s : State) :
    (afterOperand i s).events = s.events ++ eventAt .rd (eaOf i s) (operandOf i s) := by
  rw [afterOperand, operand_events, beforeExecute_events_of_ne_jmp h, operand_beforeExecute]
  rfl

/-! ## exec, by the shape of the action -/

/-- An action without cycles of its own ends the step in the state that it answers, RTS apart (R125, R333). -/
theorem exec_of_action {i : Instr} {s t : State} (h : i.mnemonic ≠ .rts)
    (hact : actionOf i s.pc (eaOf i s) (beforeExecute i s) = (0, t)) : exec i s = .next t := by
  have hrts : i ≠ .rts := fun e => h (e ▸ rfl)
  rw [exec_eq_of_ne_rts hrts, ← eaOf, hact]
  rfl

section
variable {i : Instr} {s : State}

theorem exec_of_plainly {f : State → State} (h : i.mnemonic ≠ .rts) (hact : actionOf i s.pc = plainly f) :
    exec i s = .next (f (beforeExecute i s)) :=
  exec_of_action h (by rw [hact]; rfl)

theorem exec_of_reading {f : Byte → State → State} (h : i.mnemonic ≠ .rts) (hact : actionOf i s.pc = reading f) :
    exec i s = .next (f (operandOf i s) (afterOperand i s)) := by
  apply exec_of_action h
  rw [hact, operandOf, ← operand_beforeExecute]
  rfl

theorem exec_of_storing {f : State → Byte} (h : i.mnemonic ≠ .rts) (hact : actionOf i s.pc = storing f) :
    exec i s = .next (writeBack (eaOf i s) (f (beforeExecute i s)) (beforeExecute i s)) :=
  exec_of_action h (by rw [hact]; rfl)

end

/-! ## Flags -/

/-- SetNZ writes N and Z from its byte and no other flag (R142). -/
theorem nzOf_flagsKept_of_setNZ {s t : State} {v : Byte} (h : t.p = setNZ v s.p) :
    NZof t v ∧ FlagsKept s t [.n, .z] := by
  refine ⟨⟨?_, ?_⟩, fun f hf => ?_⟩
  · rw [State.flag, h, setNZ_z]
  · rw [State.flag, h, setNZ_n]
  · simp only [List.mem_cons, List.not_mem_nil, or_false, not_or] at hf
    obtain ⟨hn, hz⟩ := hf
    rw [State.flag, h, getFlag_setNZ, if_neg hn, if_neg hz]
    rfl

/-! ## Loads -/

/-- The mnemonics that read an operand into a register (R150 to R152, R297). -/
def loadMnemonics : List Mnemonic := [.lda, .ldx, .ldy, .lax]

/-- A load writes its registers with a byte, and N and Z from it. -/
def loadBy (m : Mnemonic) (v : Byte) (s : State) : State :=
  { s with
    a := if m ∈ [Mnemonic.lda, .lax] then v else s.a
    x := if m ∈ [Mnemonic.ldx, .lax] then v else s.x
    y := if m = .ldy then v else s.y
    p := setNZ v s.p }

theorem exec_load {i : Instr} (hm : i.mnemonic ∈ loadMnemonics) (s : State) :
    exec i s = .next (loadBy i.mnemonic (operandOf i s) (afterOperand i s)) := by
  have hne : i.mnemonic ≠ .rts := ne_of_mem_of_not_mem hm (by decide)
  have hact : actionOf i s.pc = reading (loadBy i.mnemonic) := by
    simp only [loadMnemonics, List.mem_cons, List.not_mem_nil, or_false] at hm
    rcases hm with h | h | h | h <;> rw [actionOf, h] <;> rfl
  exact exec_of_reading hne hact

/-- Settles O21: the operand is read once, and the load's updates touch only its registers and P. -/
theorem loadsWriteTheirRegisters : Obligations.LoadsWriteTheirRegisters := by
  intro i s hm
  have hjmp : i.mnemonic ≠ .jmp := ne_of_mem_of_not_mem hm (by decide)
  obtain ⟨⟨ha, hx, hy, hsp⟩, hp, hnext, hmem, hrec⟩ := advanced_afterOperand i s
  have hset : (loadBy i.mnemonic (operandOf i s) (afterOperand i s)).p = setNZ (operandOf i s) s.p :=
    congrArg (setNZ _) hp
  obtain ⟨hnz, hkept⟩ := nzOf_flagsKept_of_setNZ hset
  refine ⟨encodedAs (ne_of_mem_of_not_mem hm (by decide)), _, exec_load hm s, ?_, ?_, ?_, hsp, hnz, hkept, hnext, hmem,
    afterOperand_events hjmp s, hrec⟩
  · rw [← ha]; rfl
  · rw [← hx]; rfl
  · rw [← hy]; rfl

/-! ## Stores -/

/-- The mnemonics that store a register (R153 to R155, R298). -/
def storeMnemonics : List Mnemonic := [.sta, .stx, .sty, .sax]

/-- A store resolves to an address (R153 to R155, R298). -/
theorem eaOf_store {i : Instr} (hm : i.mnemonic ∈ storeMnemonics) (s : State) : ∃ a, eaOf i s = .mem a := by
  have hrow : rowOf i ∈ rowsOf i.mnemonic := (encodedAs (ne_of_mem_of_not_mem hm (by decide))).1 i rfl
  have hmodes : ∀ m ∈ storeMnemonics, ∀ row ∈ rowsOf m, row.2.1 ∉ nonMemoryModes := by decide
  exact eaOf_eq_mem (hmodes _ hm _ hrow) s

/-- The byte that a store writes. -/
def storedByte (m : Mnemonic) (s : State) : Byte :=
  if m = .sta then s.a else if m = .stx then s.x else if m = .sty then s.y else s.a &&& s.x

/-- A store is one bus write, after PC and the cycles. -/
theorem exec_store {i : Instr} {s : State} {a : Word} (hm : i.mnemonic ∈ storeMnemonics) (hea : eaOf i s = .mem a) :
    exec i s = .next (busWrite a (storedByte i.mnemonic (beforeExecute i s)) (beforeExecute i s)) := by
  have hne : i.mnemonic ≠ .rts := ne_of_mem_of_not_mem hm (by decide)
  have hact : actionOf i s.pc = storing (storedByte i.mnemonic) := by
    simp only [storeMnemonics, List.mem_cons, List.not_mem_nil, or_false] at hm
    rcases hm with h | h | h | h <;> rw [actionOf, h] <;> rfl
  rw [exec_of_storing hne hact, hea]
  rfl

/-- A store after a step that changed no byte of memory. -/
theorem MemoryKept.stored {s u t : State} {a : Word} {v : Byte} (hu : MemoryKept s u) (ht : MemoryStored u t a v) :
    MemoryStored s t a v := by
  obtain ⟨hpeek, hapu⟩ := hu
  simpa only [MemoryStored, hpeek, hapu] using ht

/-- Settles O22: the one bus write is at the resolved address, of a register that the phases before it left. -/
theorem storesWriteTheirByte : Obligations.StoresWriteTheirByte := by
  intro i s hm
  have hjmp : i.mnemonic ≠ .jmp := ne_of_mem_of_not_mem hm (by decide)
  obtain ⟨a, hea⟩ := eaOf_store hm s
  obtain ⟨⟨ha, hx, hy, hsp⟩, hp, hnext, hmem, hrec⟩ := advanced_beforeExecute i s
  have hv : storedByte i.mnemonic (beforeExecute i s) = storedByte i.mnemonic s := by
    rw [storedByte, ha, hx, hy]
    rfl
  have hexec := exec_store hm hea
  rw [hv] at hexec
  have hev := (busAccessesAreRecorded a (storedByte i.mnemonic s) (beforeExecute i s)).2
  rw [beforeExecute_events_of_ne_jmp hjmp] at hev
  refine ⟨encodedAs (ne_of_mem_of_not_mem hm (by decide)), _, a, hexec, hea,
    ⟨hmem.stored (memoryStored_busWrite a _ _), hev⟩, ?_, ?_, ?_, ?_⟩
  · simp [RegistersKept]
  · simp
  · simpa [NextInLine] using hnext
  · simp [RecordsKept]

/-! ## Transfers -/

/-- The mnemonics that copy a register (R156 to R161). -/
def transferMnemonics : List Mnemonic := [.tax, .tay, .txa, .tya, .tsx, .txs]

/-- The register that a transfer which sets N and Z copies. -/
def transferred (m : Mnemonic) (s : State) : Byte :=
  if m ∈ [Mnemonic.tax, .tay] then s.a else if m = .txa then s.x else if m = .tya then s.y else s.sp

/-- A transfer writes its destination, and, unless it is TXS, N and Z. -/
def transferBy (m : Mnemonic) (s : State) : State :=
  { s with
    a := if m = .txa then s.x else if m = .tya then s.y else s.a
    x := if m = .tax then s.a else if m = .tsx then s.sp else s.x
    y := if m = .tay then s.a else s.y
    sp := if m = .txs then s.x else s.sp
    p := if m = .txs then s.p else setNZ (transferred m s) s.p }

theorem exec_transfer {i : Instr} (hm : i.mnemonic ∈ transferMnemonics) (s : State) :
    exec i s = .next (transferBy i.mnemonic (beforeExecute i s)) := by
  have hne : i.mnemonic ≠ .rts := ne_of_mem_of_not_mem hm (by decide)
  have hact : actionOf i s.pc = plainly (transferBy i.mnemonic) := by
    simp only [transferMnemonics, List.mem_cons, List.not_mem_nil, or_false] at hm
    rcases hm with h | h | h | h | h | h <;> rw [actionOf, h] <;> rfl
  exact exec_of_plainly hne hact

/-- Settles O23: a transfer reads and writes registers only, and TXS alone leaves P. -/
theorem transfersCopyARegister : Obligations.TransfersCopyARegister := by
  intro i s hm
  have hjmp : i.mnemonic ≠ .jmp := ne_of_mem_of_not_mem hm (by decide)
  obtain ⟨⟨ha, hx, hy, hsp⟩, hp, hnext, hmem, hrec⟩ := advanced_beforeExecute i s
  refine ⟨encodedAs (ne_of_mem_of_not_mem hm (by decide)), _, exec_transfer hm s, ?_, ?_, ?_, ?_, fun h => ?_, fun h => ?_,
    hnext, hmem, beforeExecute_events_of_ne_jmp hjmp s, hrec⟩
  · rw [← ha, ← hx, ← hy]; rfl
  · rw [← ha, ← hx, ← hsp]; rfl
  · rw [← ha, ← hy]; rfl
  · rw [← hx, ← hsp]; rfl
  · exact (if_pos h).trans hp
  · have hset : (transferBy i.mnemonic (beforeExecute i s)).p = setNZ (transferred i.mnemonic s) s.p := by
      rw [transferBy, transferred, ha, hx, hy, hsp, hp]
      exact if_neg h
    exact (nzOf_flagsKept_of_setNZ hset).symm

end Sys2Proof.Machine
end
section
/-!
PROOFS of the arithmetic and logic statements (spec/42_arithmetic_logic.md, spec/45_undocumented.md R301). First what the adder,
the compare and BIT write of the flags, and `exec` of an action that reads and then writes at one address. Then each family in
one equation for `exec`, and the statements from the equations.
-/

namespace Sys2Proof.Machine

open Claims

/-! ## What the operations write -/

/-- The adder's overflow: the addends agree in sign and the result differs from them (R180). -/
theorem addCore_overflow (a m : Byte) (c : Bool) :
    (addCore a m c).overflow = (decide (a.msb = m.msb) && decide ((addCore a m c).result.msb ≠ a.msb)) := by
  have h (r : Byte) :
      ((a ^^^ r) &&& (m ^^^ r)).getLsbD 7 = (decide (a.msb = m.msb) && decide (r.msb ≠ a.msb)) := by
    simp only [BitVec.getLsbD_and, BitVec.getLsbD_xor, BitVec.msb_eq_getLsbD_last]
    cases a.getLsbD 7 <;> cases m.getLsbD 7 <;> cases r.getLsbD 7 <;> rfl
  exact h _

section
variable (s : State) (m : Byte)

/-- The add's result is the low byte of the 9-bit sum (R180). -/
theorem addToA_a_toNat : (s.addToA m).a.toNat = (s.a.toNat + m.toNat + (s.flag .c).toNat) % 256 :=
  BitVec.toNat_ofNat _ 8

/-- The add writes C, V, N and Z, and no other flag (R180, R184). -/
theorem flag_addToA (f : Flag) :
    (s.addToA m).flag f =
      if f = .n then (s.addToA m).a.getLsbD 7 else if f = .z then (s.addToA m).a == 0
      else if f = .v then (addCore s.a m (s.flag .c)).overflow
      else if f = .c then (addCore s.a m (s.flag .c)).carry else s.flag f := by
  simp only [State.flag, State.addToA, State.setNZ_p, State.setNZ_a, State.setFlag_p, State.setFlag_a, State.setA_p,
    State.setA_a, getFlag_setNZ, getFlag_setFlag, eq_comm (b := f)]

theorem nzOf_addToA : NZof (s.addToA m) (s.addToA m).a := by
  constructor <;> simp [flag_addToA]

theorem flagsKept_addToA : FlagsKept s (s.addToA m) [.c, .v, .n, .z] := by
  intro f hf
  simp only [List.mem_cons, List.not_mem_nil, or_false, not_or] at hf
  simp [flag_addToA, hf]

/-- The compare writes C, N and Z, and no other flag (R181). -/
theorem flag_compare (reg : Byte) (f : Flag) :
    (s.compare reg m).flag f =
      if f = .n then (reg - m).getLsbD 7 else if f = .z then (reg - m == 0)
      else if f = .c then decide (m ≤ reg) else s.flag f :=
  getFlag_compareFlags reg m s.p f

theorem nzOf_compare (reg : Byte) : NZof (s.compare reg m) (reg - m) := by
  constructor <;> simp [flag_compare]

theorem flagsKept_compare (reg : Byte) : FlagsKept s (s.compare reg m) [.c, .n, .z] := by
  intro f hf
  simp only [List.mem_cons, List.not_mem_nil, or_false, not_or] at hf
  simp [flag_compare, hf]

/-- BIT's flags: Z from `A & m`, N and V from bits 7 and 6 of `m` (R189). -/
def testFlags (a m p : Byte) : Byte :=
  setFlag (setFlag (setFlag p .z (a &&& m == 0)) .n (m.getLsbD 7)) .v (m.getLsbD 6)

/-- BIT's update (R189). -/
def State.testBits : State := s.setP (testFlags s.a m s.p)

theorem flag_testBits (f : Flag) :
    (s.testBits m).flag f =
      if f = .v then m.getLsbD 6 else if f = .n then m.getLsbD 7
      else if f = .z then s.a &&& m == 0 else s.flag f := by
  simp only [State.flag, State.testBits, State.setP_p, testFlags, getFlag_setFlag, eq_comm (b := f)]

theorem flagsKept_testBits : FlagsKept s (s.testBits m) [.z, .n, .v] := by
  intro f hf
  simp only [List.mem_cons, List.not_mem_nil, or_false, not_or] at hf
  simp [flag_testBits, hf]

end

/-! ## Flags over the phases before an update -/

section
variable {i : Instr} {s u : State} (h : Advanced i s u)
include h

theorem Advanced.flag (f : Flag) : u.flag f = s.flag f := congrArg (getFlag · f) h.status

/-- What an update keeps of the flags, the step keeps. -/
theorem Advanced.flagsKept {t : State} {written : List Flag} (ht : FlagsKept u t written) : FlagsKept s t written :=
  fun f hf => (ht f hf).trans (h.flag f)

end

/-! ## Add and subtract -/

/-- The second addend of ADC and SBC: the operand, complemented for SBC (R184, R185). -/
def addend (m : Mnemonic) (v : Byte) : Byte := if m = .adc then v else v ^^^ 0xFF

theorem xor_ff (v : Byte) : v ^^^ 0xFF = ~~~v := BitVec.xor_allOnes

theorem exec_add {i : Instr} (hm : i.mnemonic ∈ [Mnemonic.adc, .sbc]) (s : State) :
    exec i s = .next ((afterOperand i s).addToA (addend i.mnemonic (operandOf i s))) := by
  have hne : i.mnemonic ≠ .rts := ne_of_mem_of_not_mem hm (by decide)
  have hact : actionOf i s.pc = reading fun v t => t.addToA (addend i.mnemonic v) := by
    simp only [List.mem_cons, List.not_mem_nil, or_false] at hm
    rcases hm with h | h <;> rw [actionOf, h]
    · rfl
    · have hsbc (v : Byte) : addend .sbc v = ~~~v := xor_ff v
      simp only [hsbc]
      rfl
  exact exec_of_reading hne hact

/-- Settles O24: one read, then the adder on A, the addend and C, which the phases before it left. -/
theorem addAndSubtractWithCarry : Obligations.AddAndSubtractWithCarry := by
  intro i s hm
  have hjmp : i.mnemonic ≠ .jmp := ne_of_mem_of_not_mem hm (by decide)
  have hadv := advanced_afterOperand i s
  have ⟨⟨ha, hx, hy, hsp⟩, _, hnext, hmem, hrec⟩ := hadv
  refine ⟨encodedAs (ne_of_mem_of_not_mem hm (by decide)), _, exec_add hm s, ⟨?_, ?_, ?_⟩, nzOf_addToA _ _, hx, hy, hsp,
    hadv.flagsKept (flagsKept_addToA _ _), hnext, hmem, afterOperand_events hjmp s, hrec⟩
  · rw [addToA_a_toNat, ha, hadv.flag]
    rfl
  · rw [flag_addToA, ha, hadv.flag]
    rfl
  · rw [flag_addToA, ← ha]
    exact addCore_overflow _ _ _

/-- Settles O25: `a + (255 - m) + C` is `a - m - 1 + C` modulo 256, and exceeds 255 exactly when nothing is borrowed. -/
theorem subtractIsSubtraction : Obligations.SubtractIsSubtraction := by
  intro i s hm
  obtain ⟨-, t, hexec, ⟨ha, hc, -⟩, -⟩ := addAndSubtractWithCarry i s (by simp [hm])
  simp only [hm, reduceCtorEq, if_false, xor_ff, BitVec.toNat_not] at ha hc
  have hlt := (operandOf i s).isLt
  refine ⟨t, hexec, fun hcin => ?_, fun hcin => ?_⟩
  · rw [hcin, Bool.toNat_true] at ha hc
    refine ⟨?_, hc.trans (decide_eq_decide.mpr (by omega))⟩
    bv_omega
  · rw [hcin, Bool.toNat_false] at ha hc
    refine ⟨?_, hc.trans (decide_eq_decide.mpr (by omega))⟩
    bv_omega

/-! ## Logic -/

/-- What AND, ORA and EOR make of A and the operand (R186 to R188). -/
def combined (m : Mnemonic) (a v : Byte) : Byte :=
  if m = .and then a &&& v else if m = .ora then a ||| v else a ^^^ v

theorem exec_logic {i : Instr} (hm : i.mnemonic ∈ [Mnemonic.and, .ora, .eor]) (s : State) :
    exec i s = .next ((afterOperand i s).resultA (combined i.mnemonic s.a (operandOf i s))) := by
  have hne : i.mnemonic ≠ .rts := ne_of_mem_of_not_mem hm (by decide)
  have hact : actionOf i s.pc = reading fun v t => t.resultA (combined i.mnemonic t.a v) := by
    simp only [List.mem_cons, List.not_mem_nil, or_false] at hm
    rcases hm with h | h | h <;> rw [actionOf, h] <;> rfl
  rw [exec_of_reading hne hact, (advanced_afterOperand i s).registers.1]

/-- Settles O27: one read, then the write of A and of its flags. -/
theorem logicOperations : Obligations.LogicOperations := by
  intro i s hm
  have hjmp : i.mnemonic ≠ .jmp := ne_of_mem_of_not_mem hm (by decide)
  obtain ⟨⟨-, hx, hy, hsp⟩, hp, hnext, hmem, hrec⟩ := advanced_afterOperand i s
  have hset : ((afterOperand i s).resultA (combined i.mnemonic s.a (operandOf i s))).p = setNZ _ s.p :=
    congrArg (setNZ _) hp
  obtain ⟨hnz, hkept⟩ := nzOf_flagsKept_of_setNZ hset
  exact ⟨encodedAs (ne_of_mem_of_not_mem hm (by decide)), _, exec_logic hm s, rfl, hnz, hx, hy, hsp, hkept, hnext, hmem,
    afterOperand_events hjmp s, hrec⟩

/-! ## Bit test -/

theorem exec_bit {i : Instr} (hm : i.mnemonic = .bit) (s : State) :
    exec i s = .next ((afterOperand i s).testBits (operandOf i s)) :=
  exec_of_reading (f := fun v t => t.testBits v) (by simp [hm]) (by rw [actionOf, hm]; rfl)

/-- Settles O28: one read, then the three flags. -/
theorem bitTestSetsFlags : Obligations.BitTest := by
  intro i s hm
  have hadv := advanced_afterOperand i s
  have ⟨hreg, _, hnext, hmem, hrec⟩ := hadv
  refine ⟨encodedAs (by simp [hm]), _, exec_bit hm s, ?_, ?_, ?_, hreg,
    hadv.flagsKept (flagsKept_testBits _ _), hnext, hmem, afterOperand_events (by simp [hm]) s, hrec⟩
  · simp [flag_testBits, hreg.1]
  · simp [flag_testBits]
  · simp [flag_testBits]

/-! ## Compare -/

/-- The register that CMP, CPX or CPY compares (R190 to R192). -/
def compared (m : Mnemonic) (s : State) : Byte := if m = .cmp then s.a else if m = .cpx then s.x else s.y

theorem exec_compare {i : Instr} (hm : i.mnemonic ∈ [Mnemonic.cmp, .cpx, .cpy]) (s : State) :
    exec i s = .next ((afterOperand i s).compare (compared i.mnemonic s) (operandOf i s)) := by
  have hne : i.mnemonic ≠ .rts := ne_of_mem_of_not_mem hm (by decide)
  have hact : actionOf i s.pc = reading fun v t => t.compare (compared i.mnemonic t) v := by
    simp only [List.mem_cons, List.not_mem_nil, or_false] at hm
    rcases hm with h | h | h <;> rw [actionOf, h] <;> rfl
  obtain ⟨ha, hx, hy, -⟩ := (advanced_afterOperand i s).registers
  rw [exec_of_reading hne hact, compared, ha, hx, hy]
  rfl

/-- Settles O29: one read, then the three flags. -/
theorem compareOperations : Obligations.CompareOperations := by
  intro i s hm
  have hjmp : i.mnemonic ≠ .jmp := ne_of_mem_of_not_mem hm (by decide)
  have hadv := advanced_afterOperand i s
  have ⟨hreg, _, hnext, hmem, hrec⟩ := hadv
  exact ⟨encodedAs (ne_of_mem_of_not_mem hm (by decide)), _, exec_compare hm s, ⟨flag_compare _ _ _ .c, nzOf_compare _ _ _⟩,
    hreg, hadv.flagsKept (flagsKept_compare _ _ _), hnext, hmem, afterOperand_events hjmp s, hrec⟩

/-! ## Increment and decrement of memory -/

/-- The state after the one read of the operand and then one write of a byte at the same place (R74). -/
def afterWriteBack (i : Instr) (r : Byte) (s : State) : State := writeBack (eaOf i s) r (afterOperand i s)

/-- An action that reads and then writes: its update follows both, and its carry-in is the one before the step (R74, R221). -/
theorem exec_of_modifying {i : Instr} {s : State} {f : Byte → Bool → Byte × Bool} {g : Byte → Bool → State → State}
    (h : i.mnemonic ≠ .rts) (hact : actionOf i s.pc = modifying f g) :
    exec i s = .next (g (f (operandOf i s) (s.flag .c)).1 (f (operandOf i s) (s.flag .c)).2
      (afterWriteBack i (f (operandOf i s) (s.flag .c)).1 s)) := by
  apply exec_of_action h
  rw [hact, operandOf, ← operand_beforeExecute, ← (advanced_afterOperand i s).flag]
  rfl

/-- An instruction whose Encoding lines all have memory modes resolves to an address. -/
theorem eaOf_eq_mem_of_rows {i : Instr} (hdef : i.mnemonic ≠ .undefined)
    (hrows : ∀ row ∈ rowsOf i.mnemonic, row.2.1 ∉ nonMemoryModes) (s : State) : ∃ a, eaOf i s = .mem a :=
  eaOf_eq_mem (hrows _ ((encodedAs hdef).1 i rfl)) s

section
variable {i : Instr} {s : State} {a : Word} (hea : eaOf i s = .mem a) (r : Byte)
include hea

theorem afterWriteBack_of_mem : afterWriteBack i r s = busWrite a r (afterOperand i s) := by
  rw [afterWriteBack, hea]
  rfl

/-- The write after the read stores its byte at the effective address and nowhere else (R74). -/
theorem memoryStored_afterWriteBack : MemoryStored s (afterWriteBack i r s) a r := by
  rw [afterWriteBack_of_mem hea]
  exact (advanced_afterOperand i s).memory.stored (memoryStored_busWrite a r _)

/-- The two accesses are recorded in order (R74, R77). -/
theorem afterWriteBack_events (h : i.mnemonic ≠ .jmp) :
    (afterWriteBack i r s).events = s.events ++ eventOf .rd a (operandOf i s) ++ eventOf .wr a r := by
  rw [afterWriteBack_of_mem hea, (busAccessesAreRecorded a r _).2, afterOperand_events h, hea]
  rfl

/-- A write to memory leaves the registers, P, PC, CYC and the records. -/
theorem afterWriteBack_kept : RegistersKept s (afterWriteBack i r s) ∧ (afterWriteBack i r s).p = s.p ∧
    NextInLine i s (afterWriteBack i r s) ∧ RecordsKept s (afterWriteBack i r s) := by
  obtain ⟨hreg, hp, hnext, -, hrec⟩ := advanced_afterOperand i s
  rw [afterWriteBack_of_mem hea]
  refine ⟨?_, ?_, ?_, ?_⟩
  · simpa [RegistersKept] using hreg
  · simpa using hp
  · simpa [NextInLine] using hnext
  · simpa [RecordsKept] using hrec

end

/-- The byte that INC or DEC stores (R193, R194). -/
def counted (m : Mnemonic) (v : Byte) : Byte := if m = .inc then v + 1 else v - 1

theorem exec_count {i : Instr} (hm : i.mnemonic ∈ [Mnemonic.inc, .dec]) (s : State) :
    exec i s = .next ((afterWriteBack i (counted i.mnemonic (operandOf i s)) s).setNZ
      (counted i.mnemonic (operandOf i s))) := by
  have hne : i.mnemonic ≠ .rts := ne_of_mem_of_not_mem hm (by decide)
  have hact : actionOf i s.pc = modifying (fun v c => (counted i.mnemonic v, c)) fun r _ t => t.setNZ r := by
    simp only [List.mem_cons, List.not_mem_nil, or_false] at hm
    rcases hm with h | h <;> rw [actionOf, h] <;> rfl
  exact exec_of_modifying hne hact

/-- Settles O30: one read and one write at the resolved address, then N and Z. -/
theorem incrementAndDecrementMemory : Obligations.IncrementAndDecrementMemory := by
  intro i s hm
  have hjmp : i.mnemonic ≠ .jmp := ne_of_mem_of_not_mem hm (by decide)
  have hdef : i.mnemonic ≠ .undefined := ne_of_mem_of_not_mem hm (by decide)
  have hmodes : ∀ m ∈ [Mnemonic.inc, .dec], ∀ row ∈ rowsOf m, row.2.1 ∉ nonMemoryModes := by decide
  obtain ⟨a, hea⟩ := eaOf_eq_mem_of_rows hdef (hmodes _ hm) s
  obtain ⟨hreg, hp, hnext, hrec⟩ := afterWriteBack_kept hea (counted i.mnemonic (operandOf i s))
  have hset : ((afterWriteBack i (counted i.mnemonic (operandOf i s)) s).setNZ (counted i.mnemonic (operandOf i s))).p
      = setNZ _ s.p := congrArg (setNZ _) hp
  obtain ⟨hnz, hkept⟩ := nzOf_flagsKept_of_setNZ hset
  exact ⟨encodedAs hdef, _, a, exec_count hm s, hea,
    ⟨memoryStored_afterWriteBack hea _, hnz, afterWriteBack_events hea _ hjmp⟩, hreg, hkept, hnext, hrec⟩

/-! ## Increment and decrement of registers -/

/-- X after INX or DEX, and as before after the others (R195, R197). -/
def countedX (m : Mnemonic) (x : Byte) : Byte := if m = .inx then x + 1 else if m = .dex then x - 1 else x

/-- Y after INY or DEY, and as before after the others (R196, R198). -/
def countedY (m : Mnemonic) (y : Byte) : Byte := if m = .iny then y + 1 else if m = .dey then y - 1 else y

/-- A register increment or decrement writes its register, and N and Z from it. -/
def countBy (m : Mnemonic) (s : State) : State :=
  { s with
    x := countedX m s.x
    y := countedY m s.y
    p := setNZ (if m ∈ [Mnemonic.inx, .dex] then countedX m s.x else countedY m s.y) s.p }

theorem exec_countRegister {i : Instr} (hm : i.mnemonic ∈ [Mnemonic.inx, .iny, .dex, .dey]) (s : State) :
    exec i s = .next (countBy i.mnemonic (beforeExecute i s)) := by
  have hne : i.mnemonic ≠ .rts := ne_of_mem_of_not_mem hm (by decide)
  have hact : actionOf i s.pc = plainly (countBy i.mnemonic) := by
    simp only [List.mem_cons, List.not_mem_nil, or_false] at hm
    rcases hm with h | h | h | h <;> rw [actionOf, h] <;> rfl
  exact exec_of_plainly hne hact

/-- Settles O31: no access, one register, and its N and Z. -/
theorem incrementAndDecrementRegisters : Obligations.IncrementAndDecrementRegisters := by
  intro i s hm
  have hjmp : i.mnemonic ≠ .jmp := ne_of_mem_of_not_mem hm (by decide)
  obtain ⟨⟨ha, hx, hy, hsp⟩, hp, hnext, hmem, hrec⟩ := advanced_beforeExecute i s
  have hset : (countBy i.mnemonic (beforeExecute i s)).p = setNZ _ s.p := congrArg (setNZ _) hp
  obtain ⟨hnz, hkept⟩ := nzOf_flagsKept_of_setNZ hset
  refine ⟨encodedAs (ne_of_mem_of_not_mem hm (by decide)), _, exec_countRegister hm s, ha, hsp, ?_, ?_, hnz,
    hkept, hnext, hmem, beforeExecute_events_of_ne_jmp hjmp s, hrec⟩
  · rw [← hx]; rfl
  · rw [← hy]; rfl

end Sys2Proof.Machine
end
section
/-!
PROOFS of the shift and rotate statement (spec/43_shift_rotate.md). First the four functions of a byte and a carry on numbers,
and the flags of the family. Then `exec` in one equation, the two forms, and the nine bits that a ROL of A turns round.
-/

namespace Sys2Proof.Machine

open Claims

/-! ## The shift functions -/

section
variable (v : Byte) (c : Bool)

/-- A shift is a rotate that feeds in 0 (R220). -/
theorem shlF_eq_rolF : shlF v = rolF v false := by simp [shlF, rolF]

theorem shrF_eq_rorF : shrF v = rorF v false := by simp [shrF, rorF]

/-- ROL doubles the byte and adds the carry, modulo 256 (R220). -/
theorem rolF_fst : (rolF v c).1 = BitVec.ofNat 8 (2 * v.toNat + c.toNat) := by
  have hdisjoint : v <<< 1 &&& (BitVec.ofBool c).setWidth 8 = 0#8 := by
    ext k hk
    cases k <;> simp
  rw [rolF, ← BitVec.add_eq_or_of_and_eq_zero _ _ hdisjoint]
  apply BitVec.eq_of_toNat_eq
  simp [Nat.shiftLeft_eq, mul_comm]

/-- ROR halves the byte and adds the carry as bit 7 (R220). -/
theorem rorF_fst : (rorF v c).1 = BitVec.ofNat 8 (v.toNat / 2 + 128 * c.toNat) := by
  have hdisjoint : v >>> 1 &&& (BitVec.ofBool c).setWidth 8 <<< 7 = 0#8 := by
    ext k hk
    rcases Nat.lt_or_ge k 7 with hlow | hhigh
    · simp [hlow]
    · have hout : v.getLsbD (1 + k) = false := BitVec.getLsbD_of_ge v _ (by omega)
      simp [hout]
  rw [rorF, ← BitVec.add_eq_or_of_and_eq_zero _ _ hdisjoint]
  apply BitVec.eq_of_toNat_eq
  simp [Nat.shiftLeft_eq, mul_comm, Nat.shiftRight_eq_div_pow]

end

/-- The carry that enters at the vacated bit: 0 for a shift, C for a rotate (R220). -/
def carryIn (m : Mnemonic) (c : Bool) : Bool := if m ∈ [Mnemonic.rol, .ror] then c else false

/-- The result and the bit shifted out (R222 to R225). -/
def shifted (m : Mnemonic) (v : Byte) (c : Bool) : Byte × Bool :=
  if m = .asl ∨ m = .rol then rolF v (carryIn m c) else rorF v (carryIn m c)

theorem shifted_fst (m : Mnemonic) (v : Byte) (c : Bool) :
    (shifted m v c).1 = BitVec.ofNat 8 (if m = .asl ∨ m = .rol then 2 * v.toNat + (carryIn m c).toNat
      else v.toNat / 2 + 128 * (carryIn m c).toNat) := by
  unfold shifted
  split
  · exact rolF_fst v _
  · exact rorF_fst v _

theorem shifted_snd (m : Mnemonic) (v : Byte) (c : Bool) :
    (shifted m v c).2 = if m = .asl ∨ m = .rol then v.getLsbD 7 else v.getLsbD 0 := by
  unfold shifted
  split <;> rfl

/-! ## The flags -/

section
variable (s : State) (r : Byte) (c : Bool)

/-- The family writes C, N and Z, and no other flag (R221). -/
theorem flag_shiftFlags (f : Flag) :
    (s.shiftFlags r c).flag f =
      if f = .n then r.getLsbD 7 else if f = .z then r == 0 else if f = .c then c else s.flag f := by
  simp only [State.flag, State.shiftFlags, State.setNZ_p, State.setFlag_p, getFlag_setNZ, getFlag_setFlag,
    eq_comm (b := f)]

theorem nzOf_shiftFlags : NZof (s.shiftFlags r c) r := by
  constructor <;> simp [flag_shiftFlags]

theorem flagsKept_shiftFlags : FlagsKept s (s.shiftFlags r c) [.c, .n, .z] := by
  intro f hf
  simp only [List.mem_cons, List.not_mem_nil, or_false, not_or] at hf
  simp [flag_shiftFlags, hf]

end

/-! ## The two forms -/

/-- The mnemonics of the family (R222 to R225). -/
def shiftMnemonics : List Mnemonic := [.asl, .lsr, .rol, .ror]

/-- The accumulator mode resolves to A (R128). -/
theorem eaOf_eq_acc {i : Instr} (h : i.addrMode.kind = .accumulator) (s : State) : eaOf i s = .acc := by
  unfold eaOf
  cases hm : i.addrMode <;> rw [hm] at h
  case accumulator => rfl
  all_goals cases h

/-- A shift resolves to the accumulator or to an address (R221). -/
theorem eaOf_shift {i : Instr} (hm : i.mnemonic ∈ shiftMnemonics) (s : State) :
    eaOf i s = .acc ∨ ∃ a, eaOf i s = .mem a := by
  have hrow : rowOf i ∈ rowsOf i.mnemonic := (encodedAs (ne_of_mem_of_not_mem hm (by decide))).1 i rfl
  have hmodes : ∀ m ∈ shiftMnemonics, ∀ row ∈ rowsOf m, row.2.1 = .accumulator ∨ row.2.1 ∉ nonMemoryModes := by decide
  rcases hmodes _ hm _ hrow with hacc | hmem
  · exact .inl (eaOf_eq_acc hacc s)
  · exact .inr (eaOf_eq_mem hmem s)

/-- The result of the instruction in a state, and the bit shifted out: of its operand and the carry before it. -/
def shiftOf (i : Instr) (s : State) : Byte × Bool := shifted i.mnemonic (operandOf i s) (s.flag .c)

/-- Every form is one read, one write of the result, and the flags (R221). -/
theorem exec_shift {i : Instr} (hm : i.mnemonic ∈ shiftMnemonics) (s : State) :
    exec i s = .next ((afterWriteBack i (shiftOf i s).1 s).shiftFlags (shiftOf i s).1 (shiftOf i s).2) := by
  have hne : i.mnemonic ≠ .rts := ne_of_mem_of_not_mem hm (by decide)
  have hact : actionOf i s.pc = modifying (shifted i.mnemonic) fun r c t => t.shiftFlags r c := by
    have hasl : shifted .asl = fun v _ => shlF v := by funext v c; exact (shlF_eq_rolF v).symm
    have hlsr : shifted .lsr = fun v _ => shrF v := by funext v c; exact (shrF_eq_rorF v).symm
    simp only [shiftMnemonics, List.mem_cons, List.not_mem_nil, or_false] at hm
    rcases hm with h | h | h | h <;> rw [actionOf, h]
    · rw [hasl]; rfl
    · rw [hlsr]; rfl
    · rfl
    · rfl
  exact exec_of_modifying hne hact

/-- In either form, the read and the write leave X, Y, SP, P, PC, CYC and the records as the phases before them did. -/
theorem afterWriteBack_frame (i : Instr) (r : Byte) (s : State) :
    (afterWriteBack i r s).x = s.x ∧ (afterWriteBack i r s).y = s.y ∧ (afterWriteBack i r s).sp = s.sp ∧
    (afterWriteBack i r s).p = s.p ∧ NextInLine i s (afterWriteBack i r s) ∧ RecordsKept s (afterWriteBack i r s) := by
  obtain ⟨⟨-, hx, hy, hsp⟩, hp, hnext, -, hrec⟩ := advanced_afterOperand i s
  simpa [NextInLine, RecordsKept, afterWriteBack] using And.intro hx ⟨hy, hsp, hp, hnext, hrec⟩

section
variable {i : Instr} {s : State} (hea : eaOf i s = .acc)
include hea

theorem operandOf_of_acc : operandOf i s = s.a := by
  rw [operandOf, hea]
  exact resolve_a _ s

/-- The accumulator form writes A and makes no bus access (R221). -/
theorem afterWriteBack_of_acc (r : Byte) : afterWriteBack i r s = (beforeExecute i s).setA r := by
  rw [afterWriteBack, afterOperand, hea]
  rfl

end

/-! ## Nine ROLs -/

/-- ROL turns the nine bits of C and the byte left by one place (R220). -/
theorem cons_rolF (v : Byte) (c : Bool) :
    BitVec.cons (rolF v c).2 (rolF v c).1 = (BitVec.cons c v).rotateLeft 1 := by
  ext k hk
  rw [BitVec.getElem_rotateLeft, BitVec.getElem_cons]
  cases k with
  | zero => simp [rolF, BitVec.getElem_cons]
  | succ k =>
    rcases eq_or_ne k 7 with rfl | hk7
    · simp [rolF, BitVec.getElem_cons]
    · have hk8 : k ≠ 8 := by omega
      simp [rolF, BitVec.getElem_cons, hk7, hk8]

section
variable (x : BitVec 9)

theorem nineBits_rotateLeft_zero : x.rotateLeft 0 = x := by
  ext k hk
  simp [BitVec.getElem_rotateLeft]

theorem nineBits_rotateLeft_succ (n : Nat) : (x.rotateLeft 1).rotateLeft n = x.rotateLeft (n + 1) := by
  ext k hk
  simp only [BitVec.getElem_rotateLeft]
  split_ifs <;> congr 1 <;> omega

/-- Nine places are the whole turn. -/
theorem nineBits_rotateLeft_nine : x.rotateLeft 9 = x :=
  BitVec.rotateLeft_mod_eq_rotateLeft.symm.trans (nineBits_rotateLeft_zero x)

end

/-- C and A as nine bits, C the highest. -/
def carryA (s : State) : BitVec 9 := BitVec.cons (s.flag .c) s.a

/-- A ROL of A turns the nine bits by one place (R224). -/
theorem exec_rolAcc (s : State) : ∃ t, exec .rolAcc s = .next t ∧ carryA t = (carryA s).rotateLeft 1 := by
  refine ⟨_, exec_shift (i := .rolAcc) (by decide) s, ?_⟩
  rw [carryA, flag_shiftFlags, carryA, ← cons_rolF]
  rfl

/-- `n` ROLs of A turn them by `n` places. -/
theorem repeatExec_rolAcc (n : Nat) (s : State) :
    ∃ t, repeatExec .rolAcc n s = some t ∧ carryA t = (carryA s).rotateLeft n := by
  induction n generalizing s with
  | zero => exact ⟨s, rfl, (nineBits_rotateLeft_zero _).symm⟩
  | succ n ih =>
    obtain ⟨u, hu, hturn⟩ := exec_rolAcc s
    obtain ⟨t, ht, hturns⟩ := ih u
    refine ⟨t, ?_, ?_⟩
    · rw [repeatExec, hu]
      exact ht
    · rw [hturns, hturn, nineBits_rotateLeft_succ]

/-- After nine, every bit is back at its place. -/
theorem repeatExec_rolAcc_nine (s : State) : ∃ t, repeatExec .rolAcc 9 s = some t ∧ t.a = s.a ∧ t.flag .c = s.flag .c := by
  obtain ⟨t, ht, hturns⟩ := repeatExec_rolAcc 9 s
  have hsame : carryA t = carryA s := hturns.trans (nineBits_rotateLeft_nine _)
  refine ⟨t, ht, ?_, ?_⟩
  · simpa [carryA] using congrArg (BitVec.setWidth 8) hsame
  · simpa [carryA] using congrArg BitVec.msb hsame

/-! ## The statement -/

/-- Settles O32: the access pattern in each form, then the three flags; nine ROLs are the whole turn of the nine bits. -/
theorem shiftsAndRotates : Obligations.ShiftsAndRotates := by
  refine ⟨fun i s hm => ?_, repeatExec_rolAcc_nine⟩
  have hjmp : i.mnemonic ≠ .jmp := ne_of_mem_of_not_mem hm (by decide)
  obtain ⟨hx, hy, hsp, hp, hnext, hrec⟩ := afterWriteBack_frame i (shiftOf i s).1 s
  have hkept : FlagsKept s _ [.c, .n, .z] := fun f hf =>
    (flagsKept_shiftFlags _ (shiftOf i s).1 (shiftOf i s).2 f hf).trans (congrArg (getFlag · f) hp)
  refine ⟨encodedAs (ne_of_mem_of_not_mem hm (by decide)), _, exec_shift hm s, ?_, hx, hy, hsp, hkept, hnext, hrec⟩
  intro v left cin r
  have hr : (shiftOf i s).1 = r := shifted_fst _ _ _
  rw [hr]
  refine ⟨(flag_shiftFlags _ _ _ .c).trans (shifted_snd _ _ _), nzOf_shiftFlags _ _ _, fun hacc => ?_, fun hne => ?_⟩
  · obtain ⟨-, -, -, hmem, -⟩ := advanced_beforeExecute i s
    rw [afterWriteBack_of_acc hacc]
    exact ⟨operandOf_of_acc hacc, rfl, hmem, beforeExecute_events_of_ne_jmp hjmp s⟩
  · obtain ⟨a, hea⟩ := (eaOf_shift hm s).resolve_left hne
    obtain ⟨⟨ha, -⟩, -⟩ := afterWriteBack_kept hea r
    exact ⟨ha, a, hea, memoryStored_afterWriteBack hea r, afterWriteBack_events hea r hjmp⟩

end Sys2Proof.Machine
end
section
/-!
PROOFS of the control, stack and flag statements, 1 (spec/44_control_stack_flags.md, spec/45_undocumented.md R290 to R296):
the instructions whose PC is the next in line or their effective address. Each family in one equation for `exec`, and the
statements from the equations.
-/

namespace Sys2Proof.Machine

open Claims

/-! ## Length, cycles and penalty -/

/-- A defined instruction has its descriptor's length and cycles: the configuration has no say (R92, R98). -/
theorem len_cycles_of_defined {i : Instr} (h : i.mnemonic ≠ .undefined) (cfg : Config) :
    instrLen cfg i = i.desc.len ∧ baseCycles cfg i = i.desc.cycles := by
  have hcls : i.desc.cls ≠ .undefined := mt (cls_undefined_iff i).mp h
  unfold instrLen baseCycles
  cases hc : i.desc.cls
  case undefined => exact absurd hc hcls
  all_goals exact ⟨rfl, rfl⟩

/-- An instruction that every Encoding line gives no page penalty accounts its base cycles (R95, R124). -/
theorem accounted_of_rows {i : Instr} (hdef : i.mnemonic ≠ .undefined)
    (hrows : ∀ row ∈ rowsOf i.mnemonic, row.2.2.2.2 = 0) (cfg : Config) (crossed : Bool) :
    accounted cfg i crossed = i.desc.cycles := by
  have hpen : i.desc.penalty = 0 := hrows _ ((encodedAs hdef).1 i rfl)
  rw [accounted, (len_cycles_of_defined hdef cfg).2, hpen, ite_self, Nat.add_zero]

/-! ## No-operations -/

/-- Only NOP 0x80 skips a byte that its length counts (R292). -/
theorem addrMode_immediateSkip_iff {i : Instr} : i.addrMode = .immediateSkip ↔ i = .nopImm80 := by
  constructor
  · intro h
    cases i <;> cases h
    rfl
  · rintro rfl
    rfl

/-- The fetch reads every operand byte of a defined instruction but the one that NOP 0x80 skips (R78, R292). -/
theorem builderOf_reads_of_defined {i : Instr} (h : i.mnemonic ≠ .undefined) :
    (builderOf i.opcode).reads = if i = .nopImm80 then 0 else i.desc.len - 1 := by
  rw [builderOf_opcode_reads]
  split
  · next hi => rw [addrMode_immediateSkip_iff.mpr hi]; rfl
  · next hi => exact (encode_of_no_skip (mt addrMode_immediateSkip_iff.mp hi) h).1

/-- Settles O44: a NOP's state is the advanced one, which differs from the first in PC and CYC alone. -/
theorem noOperationsOnlyAdvance : Obligations.NoOperationsOnlyAdvance := by
  intro i s hm
  have hjmp : i.mnemonic ≠ .jmp := by rw [hm]; decide
  have hdef : i.mnemonic ≠ .undefined := by rw [hm]; decide
  have hexec : exec i s = .next (beforeExecute i s) :=
    exec_of_plainly (by rw [hm]; decide) (by rw [actionOf, hm]; rfl)
  refine ⟨encodedAs hdef, builderOf_reads_of_defined hdef, _, hexec, (advanced_beforeExecute i s).next, ?_⟩
  rw [beforeExecute, resolve_state_of_ne_jmp hjmp]
  rfl

/-! ## Flag instructions -/

/-- Writing a flag writes no other (R29). -/
theorem flagsKept_setFlag (s : State) (f : Flag) (on : Bool) : FlagsKept s (s.setFlag f on) [f] :=
  fun _ hg => getFlag_setFlag_other s.p on (List.ne_of_not_mem_cons hg).symm

/-- The flag that an instruction of R260 to R266 names. -/
def namedFlag (m : Mnemonic) : Flag :=
  if m ∈ [Mnemonic.clc, .sec] then .c else if m ∈ [Mnemonic.cli, .sei] then .i else if m = .clv then .v else .d

/-- The value that it writes. -/
def namedValue (m : Mnemonic) : Bool := decide (m ∈ [Mnemonic.sec, .sei, .sed])

theorem exec_flagTo {i : Instr} (hm : i.mnemonic ∈ [Mnemonic.clc, .sec, .cli, .sei, .clv, .cld, .sed]) (s : State) :
    exec i s = .next ((beforeExecute i s).setFlag (namedFlag i.mnemonic) (namedValue i.mnemonic)) := by
  have hne : i.mnemonic ≠ .rts := ne_of_mem_of_not_mem hm (by decide)
  have hact : actionOf i s.pc = flagTo (namedFlag i.mnemonic) (namedValue i.mnemonic) := by
    simp only [List.mem_cons, List.not_mem_nil, or_false] at hm
    rcases hm with h | h | h | h | h | h | h <;> rw [actionOf, h] <;> rfl
  exact exec_of_plainly hne hact

/-- Settles O43: the one update after PC and the cycles is of the named flag. -/
theorem flagInstructionsWriteOneFlag : Obligations.FlagInstructionsWriteOneFlag := by
  intro i s hm
  have hjmp : i.mnemonic ≠ .jmp := ne_of_mem_of_not_mem hm (by decide)
  have hadv := advanced_beforeExecute i s
  have ⟨hreg, _, hnext, hmem, hrec⟩ := hadv
  exact ⟨encodedAs (ne_of_mem_of_not_mem hm (by decide)), _, exec_flagTo hm s,
    ⟨getFlag_setFlag_same _ _ _, hadv.flagsKept (flagsKept_setFlag _ _ _)⟩, hreg, hnext, hmem,
    beforeExecute_events_of_ne_jmp hjmp s, hrec⟩

/-! ## Pushes -/

/-- The byte that PHA or PHP pushes (R256, R257). -/
def pushedByte (m : Mnemonic) (s : State) : Byte := if m = .pha then s.a else pushedStatus s.p

theorem exec_push {i : Instr} (hm : i.mnemonic ∈ [Mnemonic.pha, .php]) (s : State) :
    exec i s = .next (push (pushedByte i.mnemonic s) (beforeExecute i s)) := by
  have hne : i.mnemonic ≠ .rts := ne_of_mem_of_not_mem hm (by decide)
  have hv : pushedByte i.mnemonic (beforeExecute i s) = pushedByte i.mnemonic s := by
    rw [pushedByte, beforeExecute_a, beforeExecute_p]
    rfl
  have hact : actionOf i s.pc = plainly fun t => push (pushedByte i.mnemonic t) t := by
    simp only [List.mem_cons, List.not_mem_nil, or_false] at hm
    rcases hm with h | h <;> rw [actionOf, h] <;> rfl
  rw [exec_of_plainly hne hact, hv]

/-- Settles O41: a push stores its byte at SP and changes nothing else but SP. -/
theorem pushesStoreOneByte : Obligations.PushesStoreOneByte := by
  intro i s hm
  have hjmp : i.mnemonic ≠ .jmp := ne_of_mem_of_not_mem hm (by decide)
  obtain ⟨⟨ha, hx, hy, hsp⟩, hp, hnext, hmem, hrec⟩ := advanced_beforeExecute i s
  have hexec := exec_push hm s
  have hstored := hmem.stored (memoryStored_push (pushedByte i.mnemonic s) (beforeExecute i s))
  rw [hsp] at hstored
  rw [push_eq] at hexec hstored
  exact ⟨encodedAs (ne_of_mem_of_not_mem hm (by decide)), _, hexec, hstored, congrArg (· - 1) hsp, ha, hx, hy, hp, hnext,
    beforeExecute_events_of_ne_jmp hjmp s, hrec⟩

/-! ## Pulls -/

/-- What PLA or PLP makes of the pulled byte (R258, R259). -/
def pullInto (m : Mnemonic) (v : Byte) (s : State) : State :=
  if m = .pla then (s.setA v).setNZ v else s.setP (pulledStatus v)

theorem exec_pull {i : Instr} (hm : i.mnemonic ∈ [Mnemonic.pla, .plp]) (s : State) :
    exec i s = .next (pullInto i.mnemonic (s.peek (stackAddr (s.sp + 1))) ((beforeExecute i s).setSp (s.sp + 1))) := by
  have hne : i.mnemonic ≠ .rts := ne_of_mem_of_not_mem hm (by decide)
  have hact : actionOf i s.pc = plainly fun t => pullInto i.mnemonic (pull t).1 (pull t).2 := by
    simp only [List.mem_cons, List.not_mem_nil, or_false] at hm
    rcases hm with h | h <;> rw [actionOf, h] <;> rfl
  rw [exec_of_plainly hne hact, pull_eq_peek, beforeExecute_sp, (advanced_beforeExecute i s).memory.1]

/-- Settles O42: the pulled byte is peeked, and goes to A, N and Z, or to the whole of P. -/
theorem pullsLoadOneByte : Obligations.PullsLoadOneByte := by
  intro i s hm
  have hjmp : i.mnemonic ≠ .jmp := ne_of_mem_of_not_mem hm (by decide)
  have henc : EncodedAs i.mnemonic := encodedAs (ne_of_mem_of_not_mem hm (by decide))
  obtain ⟨⟨ha, hx, hy, -⟩, hp, hnext, hmem, hrec⟩ := advanced_beforeExecute i s
  have hev := beforeExecute_events_of_ne_jmp hjmp s
  have hexec := exec_pull hm s
  simp only [List.mem_cons, List.not_mem_nil, or_false] at hm
  rcases hm with h | h
  · rw [h] at hexec
    have hset : (pullInto .pla (s.peek (stackAddr (s.sp + 1))) ((beforeExecute i s).setSp (s.sp + 1))).p =
        setNZ _ s.p := congrArg (setNZ _) hp
    obtain ⟨hnz, hkept⟩ := nzOf_flagsKept_of_setNZ hset
    exact ⟨henc, _, hexec, ⟨fun _ => ⟨rfl, hnz, hkept⟩, fun h' => by simp [h] at h'⟩, rfl, hx, hy, hnext, hmem, hev,
      hrec⟩
  · rw [h] at hexec
    exact ⟨henc, _, hexec, ⟨fun h' => by simp [h] at h', fun _ => ⟨ha, rfl⟩⟩, rfl, hx, hy, hnext, hmem, hev, hrec⟩

/-! ## Branches -/

/-- The mnemonics of R248 to R255. -/
def branchMnemonics : List Mnemonic := [.bpl, .bmi, .bvc, .bvs, .bcc, .bcs, .bne, .beq]

/-- A branch's action tests the condition of its mnemonic (R247 to R255). -/
theorem actionOf_branch {i : Instr} (hm : i.mnemonic ∈ branchMnemonics) (pc0 : Word) :
    actionOf i pc0 = branch (branchTaken i.mnemonic) := by
  have hclear (f : Flag) : branchOn f false = branch fun s => !s.flag f :=
    congrArg branch (funext fun s => beq_false (s.flag f))
  have hset (f : Flag) : branchOn f true = branch fun s => s.flag f :=
    congrArg branch (funext fun s => beq_true (s.flag f))
  simp only [branchMnemonics, List.mem_cons, List.not_mem_nil, or_false] at hm
  rcases hm with h | h | h | h | h | h | h | h <;> rw [actionOf, h] <;> simp only [hclear, hset] <;> rfl

/-- A branch is encoded in the relative mode, with 2 bytes and 2 base cycles (R248 to R255). -/
theorem relative_of_branch {i : Instr} (hm : i.mnemonic ∈ branchMnemonics) :
    (∃ off, i.addrMode = .relative off) ∧ i.desc.len = 2 ∧ i.desc.cycles = 2 := by
  have hrow : rowOf i ∈ rowsOf i.mnemonic := (encodedAs (ne_of_mem_of_not_mem hm (by decide))).1 i rfl
  have hrows : ∀ m ∈ branchMnemonics, ∀ row ∈ rowsOf m, row.2.1 = .relative ∧ row.2.2.1 = 2 ∧ row.2.2.2.1 = 2 := by
    decide
  obtain ⟨hkind, hlen, hcyc⟩ := hrows _ hm _ hrow
  refine ⟨?_, hlen, hcyc⟩
  change i.addrMode.kind = .relative at hkind
  cases hmode : i.addrMode <;> rw [hmode] at hkind
  case relative off => exact ⟨off, rfl⟩
  all_goals cases hkind

/-- A branch writes PC and CYC: the extra cycles are 1 for taking it, and 1 for a target on another page (R247). -/
theorem exec_branch {i : Instr} (hm : i.mnemonic ∈ branchMnemonics) {off : Byte} (hoff : i.addrMode = .relative off)
    (s : State) :
    exec i s = .next ((s.setPc (if branchTaken i.mnemonic s then s.pc + 2 + sext16 off else s.pc + 2)).addCyc
      (2 + if branchTaken i.mnemonic s then (if hi8 (s.pc + 2 + sext16 off) = hi8 (s.pc + 2) then 1 else 2) else 0)) := by
  have hne : i ≠ .rts := fun e => ne_of_mem_of_not_mem hm (by decide) (congrArg Instr.mnemonic e)
  obtain ⟨-, hlen, hcyc⟩ := relative_of_branch hm
  obtain ⟨hl, hc⟩ := len_cycles_of_defined (ne_of_mem_of_not_mem hm (by decide)) s.cfg
  have hbefore : beforeExecute i s = (s.setPc (s.pc + 2)).addCyc 2 := by
    rw [beforeExecute, accounted, hl, hc, hlen, hcyc, hoff]
    rfl
  have htaken : branchTaken i.mnemonic ((s.setPc (s.pc + 2)).addCyc 2) = branchTaken i.mnemonic s := rfl
  rw [exec_eq_of_ne_rts hne, actionOf_branch hm, hbefore, hoff]
  simp only [resolve, branch, htaken, State.addCyc_pc, State.setPc_pc]
  cases branchTaken i.mnemonic s with
  | false => rfl
  | true =>
    by_cases hpage : hi8 (s.pc + 2 + sext16 off) = hi8 (s.pc + 2)
    · simp only [hpage, if_true]
      rfl
    · simp only [hpage, if_true, if_false]
      rfl

/-- Settles O40: only PC and CYC are written, by the condition and the target's page. -/
theorem branchesAndTheirTiming : Obligations.BranchesAndTheirTiming := by
  intro i s hm
  obtain ⟨⟨off, hoff⟩, -⟩ := relative_of_branch hm
  have hmem : MemoryKept s (s.setPc _) := ⟨fun b => peek_congr b rfl rfl rfl rfl, rfl⟩
  exact ⟨encodedAs (ne_of_mem_of_not_mem hm (by decide)), _, off, hoff, exec_branch hm hoff s,
    ⟨rfl, (Nat.add_assoc _ _ _).symm⟩, ⟨rfl, rfl, rfl, rfl⟩, rfl, hmem, rfl, ⟨rfl, rfl, rfl, rfl⟩⟩

/-! ## Jumps -/

/-- A jump writes its effective address to PC, after its pointer's reads (R242). -/
theorem exec_jump {i : Instr} {s : State} {a : Word} (hm : i.mnemonic = .jmp) (hea : eaOf i s = .mem a) :
    exec i s = .next ((beforeExecute i s).setPc a) := by
  have hact : actionOf i s.pc = jump := by rw [actionOf, hm]
  apply exec_of_action (by rw [hm]; decide)
  rw [hact, hea]
  rfl

/-- Read16PW records its two accesses, the low byte's first (R63, R77). -/
theorem read16PW_events (w : Word) (s : State) :
    (read16PW w s).2.events = s.events ++ eventOf .rd w (lo8 (read16PW w s).1) ++
      eventOf .rd (nextInPage w) (hi8 (read16PW w s).1) := by
  simp only [read16PW, lo8_wordOf, hi8_wordOf]
  rw [(busAccessesAreRecorded (nextInPage w) 0 _).1, (busAccessesAreRecorded w 0 s).1]

/-- Settles O33: both modes resolve to an address and take no penalty; the indirect one reads its pointer by Read16PW. -/
theorem jumpLoadsTheProgramCounter : Obligations.JumpLoadsTheProgramCounter := by
  intro i s hm
  have hdef : i.mnemonic ≠ .undefined := by rw [hm]; decide
  have hmodes : ∀ row ∈ rowsOf .jmp, row.2.1 ∉ nonMemoryModes := by decide
  have hpenalty : ∀ row ∈ rowsOf .jmp, row.2.2.2.2 = 0 := by decide
  obtain ⟨a, hea⟩ := eaOf_eq_mem_of_rows hdef (hm ▸ hmodes) s
  obtain ⟨hreg, hp, ⟨-, hcyc⟩, hmem, hrec⟩ := advanced_beforeExecute i s
  rw [accounted_of_rows hdef (hm ▸ hpenalty)] at hcyc
  refine ⟨encodedAs hdef, _, a, exec_jump hm hea, hea, rfl, hcyc, hreg, hp, hmem, hrec, ?_, ?_⟩
  · rintro w rfl
    exact ⟨(EA.mem.inj hea).symm, rfl⟩
  · rintro w rfl
    obtain rfl : (read16PW w s).1 = a := EA.mem.inj hea
    rw [← nextInPage_eq]
    exact read16PW_events w s

end Sys2Proof.Machine
end
section
/-!
PROOFS of the control, stack and flag statements, 2 (spec/44_control_stack_flags.md R243 to R246, spec/60_exceptions.md
R333, R338): JSR and RTS, BRK and RTI. The stack page is RAM, so each of the four is one update of the state before it,
written out in one equation for `exec`; the statements are what Peek shows of that state.
-/

namespace Sys2Proof.Machine

open Claims

/-! ## The stack page, peeked -/

/-- Two stack addresses show one cell only when SP is the same (R26, R52). -/
@[simp] theorem sameCell_stackAddr (p q : Byte) : sameCell (stackAddr p) (stackAddr q) = true ↔ p = q := by
  simp [sameCell, busTarget_stackAddr, BitVec.toNat_inj]

/-- A push shows its byte in the cell that SP pointed at (R143). -/
theorem peek_push (v : Byte) (s : State) (b : Word) :
    (push v s).peek b = if sameCell (stackAddr s.sp) b then v else s.peek b :=
  (memoryStored_push v s).1 b

/-- Push16 shows the low byte of its word below the high byte (R144). -/
theorem peek_push16 (w : Word) (s : State) (b : Word) :
    (push16 w s).peek b = if sameCell (stackAddr (s.sp - 1)) b then lo8 w
      else if sameCell (stackAddr s.sp) b then hi8 w else s.peek b := by
  rw [push16, peek_push, push_sp, peek_push]

@[simp] theorem push16_sp (w : Word) (s : State) : (push16 w s).sp = s.sp - 2 := by
  rw [push16, push_sp, push_sp]
  bv_omega

/-- Pull16 peeks the low byte and then the high byte above it, and leaves only SP changed (R79, R144). -/
theorem pull16_eq_peek (s : State) :
    pull16 s = (wordOf (s.peek (stackAddr (s.sp + 2))) (s.peek (stackAddr (s.sp + 1))), s.setSp (s.sp + 2)) := by
  have hsp : s.sp + 1 + 1 = s.sp + 2 := BitVec.add_assoc s.sp 1 1
  rw [pull16, pull_eq_peek, pull_eq_peek, State.setSp_sp, hsp]
  rfl

/-! ## JSR and RTS -/

/-- JSR pushes the address of its last byte and jumps (R243). -/
theorem exec_jsr (w : Word) (s : State) :
    exec (.jsrAbs w) s = .next (((push16 (s.pc + 2) s).setPc w).addCyc 6) := by
  have hret : s.pc + 3 - 1 = s.pc + 2 := by bv_omega
  have hpush : push16 (s.pc + 3 - 1) ((s.setPc (s.pc + 3)).addCyc 6) =
      ((push16 (s.pc + 2) s).setPc (s.pc + 3)).addCyc 6 := by
    rw [hret, push16_eq, push16_eq]
    rfl
  exact exec_of_action nofun (Prod.ext rfl (congrArg (State.setPc · w) hpush))

/-- Settles O34: two pushes, PC and CYC. -/
theorem callPushesTheReturnAddress : Obligations.CallPushesTheReturnAddress := by
  intro w s
  have hsp : s.sp - 1 - 1 = s.sp - 2 := by bv_omega
  have hpeek := peek_push16 (s.pc + 2) s
  have hexec := exec_jsr w s
  rw [push16_eq] at hexec hpeek
  exact ⟨encodedAs (by decide), _, hexec, rfl, hsp, rfl, hpeek, rfl, rfl, rfl, rfl, rfl, rfl, ⟨rfl, rfl, rfl, rfl⟩⟩

/-- RTS goes to the word after the pulled one, and then the halt check is made (R244, R333). -/
theorem exec_rts (s : State) :
    exec .rts s = .next (haltCheck .rts (((s.setSp (s.sp + 2)).setPc
      (wordOf (s.peek (stackAddr (s.sp + 2))) (s.peek (stackAddr (s.sp + 1))) + 1)).addCyc 6)) := by
  rw [exec_eq, afterExecute]
  change Host.Outcome.next (haltCheck .rts ((returnSubroutine .none (beforeExecute .rts s)).2.addCyc 0)) = _
  rw [returnSubroutine, plainly, pull16_eq_peek]
  rfl

/-- Settles O35: SP, PC and CYC are written, and RUN by the halt check alone. -/
theorem returnPullsTheAddress : Obligations.ReturnPullsTheAddress := by
  intro s
  refine ⟨encodedAs (by decide), _, exec_rts s, haltCheck_pc _ _, haltCheck_sp _ _, haltCheck_cyc _ _, ?_,
    ⟨fun b => ?_, haltCheck_apu _ _⟩, haltCheck_a _ _, haltCheck_x _ _, haltCheck_y _ _, haltCheck_p _ _,
    haltCheck_events _ _, haltCheck_diag _ _, haltCheck_prg _ _, haltCheck_cfg _ _⟩
  · rw [haltCheck_run, haltCheck_pc]
    exact if_congr (and_iff_right rfl) rfl rfl
  · exact peek_congr b (haltCheck_ram _ _) (haltCheck_sram _ _) (haltCheck_prg _ _) (haltCheck_cfg _ _)

/-- Settles O36: the pulled word is the pushed one, since the two stack cells are not one. -/
theorem returnAfterCallResumes : Obligations.ReturnAfterCallResumes := by
  intro w pc s
  obtain ⟨-, t, ht, -, hsp, hcyc, hpeek, -, ha, hx, hy, hp, -⟩ := callPushesTheReturnAddress w s
  obtain ⟨-, u, hu, hupc, husp, hucyc, -, -, hua, hux, huy, hup, -⟩ := returnPullsTheAddress (t.setPc pc)
  have hsp1 : t.sp + 1 = s.sp - 1 := by rw [hsp]; bv_omega
  have hsp2 : t.sp + 2 = s.sp := by rw [hsp]; bv_omega
  have hcell (b : Word) : t.peek b = if sameCell (stackAddr (s.sp - 1)) b then lo8 (s.pc + 2)
      else if sameCell (stackAddr s.sp) b then hi8 (s.pc + 2) else s.peek b := hpeek b
  have hlo : t.peek (stackAddr (s.sp - 1)) = lo8 (s.pc + 2) := by simp [hcell]
  have hhi : t.peek (stackAddr s.sp) = hi8 (s.pc + 2) := by simp [hcell]
  have hpulled : u.pc = wordOf (t.peek (stackAddr (t.sp + 2))) (t.peek (stackAddr (t.sp + 1))) + 1 := hupc
  rw [hsp1, hsp2, hlo, hhi, wordOf_hi8_lo8] at hpulled
  refine ⟨t, u, ht, hu, ?_, husp.trans hsp2, hua.trans ha, hux.trans hx, huy.trans hy, hup.trans hp, ?_⟩
  · rw [hpulled, BitVec.add_assoc]
    rfl
  · rw [hucyc, State.setPc_cyc, hcyc]

/-! ## BRK and RTI -/

/-- The frame that BRK saves: a return address, and the status with bits 4 and 5 set (R240, R246). -/
def pushFrame (w : Word) (s : State) : State := push (pushedStatus s.p) (push16 w s)

/-- The frame takes three stack cells, and nothing else changes (R143). -/
theorem pushFrame_eq (w : Word) (s : State) :
    pushFrame w s = (s.setRam (Memory.write (push16 w s).ram (0x100 + (s.sp - 2).toNat) (pushedStatus s.p))).setSp
      (s.sp - 3) := by
  have hsp : s.sp - 2 - 1 = s.sp - 3 := by bv_omega
  rw [pushFrame, push_eq, push16_sp, hsp, push16_eq]
  rfl

theorem peek_pushFrame (w : Word) (s : State) (b : Word) :
    (pushFrame w s).peek b = if sameCell (stackAddr (s.sp - 2)) b then pushedStatus s.p
      else if sameCell (stackAddr (s.sp - 1)) b then lo8 w
      else if sameCell (stackAddr s.sp) b then hi8 w else s.peek b := by
  rw [pushFrame, peek_push, push16_sp, peek_push16]

/-- The trap saves its frame, sets I, and goes to the vector, which is program storage and so is peeked (R68, R246). -/
theorem enterBreak_eq (s : State) :
    enterBreak s = ((pushFrame (s.pc + 1) s).setFlag .i true).setPc (wordOf (s.peek 0xFFFF) (s.peek 0xFFFE)) := by
  have hp : (push16 (s.pc + 1) s).p = s.p := by rw [push16_eq]; rfl
  have hvec (a : Word) (h : busTarget a = .program) :
      ((pushFrame (s.pc + 1) s).setFlag .i true).programByte a = s.peek a := by
    rw [State.peek, h, pushFrame_eq]
    rfl
  rw [enterBreak, pushStatus, hp, ← pushFrame]
  simp only [read16_breakVector]
  rw [hvec 0xFFFF (by decide), hvec 0xFFFE (by decide)]

/-- BRK saves the address two after its own, and takes the trap in seven cycles (R246, R338). -/
theorem exec_brk (s : State) :
    exec .brk s = .next ((((pushFrame (s.pc + 2) s).setFlag .i true).setPc
      (wordOf (s.peek 0xFFFF) (s.peek 0xFFFE))).addCyc 7) := by
  have hret : s.pc + 1 + 1 = s.pc + 2 := BitVec.add_assoc s.pc 1 1
  have hframe : pushFrame (s.pc + 2) ((s.setPc (s.pc + 1)).addCyc 7) =
      ((pushFrame (s.pc + 2) s).setPc (s.pc + 1)).addCyc 7 := by
    rw [pushFrame_eq, pushFrame_eq, push16_eq, push16_eq]
    rfl
  have hpeek (a : Word) : ((s.setPc (s.pc + 1)).addCyc 7).peek a = s.peek a := peek_congr a rfl rfl rfl rfl
  have hbefore : beforeExecute .brk s = (s.setPc (s.pc + 1)).addCyc 7 := rfl
  rw [exec_of_plainly (i := .brk) nofun rfl, enterBreak_eq, hbefore, hpeek, hpeek, State.addCyc_pc, State.setPc_pc, hret,
    hframe]
  rfl

/-- Settles O37: the frame, I, PC and CYC. -/
theorem breakTakesTheTrap : Obligations.BreakTakesTheTrap := by
  intro s
  have hexec := exec_brk s
  have hpeek := peek_pushFrame (s.pc + 2) s
  have hflags := flagsKept_setFlag (pushFrame (s.pc + 2) s) .i true
  rw [pushFrame_eq] at hexec hpeek hflags
  exact ⟨encodedAs (by decide), _, hexec, rfl, rfl, rfl, hpeek, getFlag_setFlag_same _ _ _, hflags, rfl, rfl, rfl, rfl,
    rfl, ⟨rfl, rfl, rfl, rfl⟩⟩

/-- The return from the trap takes P and then PC from the three bytes above SP (R245, R339). -/
theorem returnFromBreak_eq (s : State) :
    returnFromBreak s = ((s.setSp (s.sp + 3)).setP (pulledStatus (s.peek (stackAddr (s.sp + 1))))).setPc
      (wordOf (s.peek (stackAddr (s.sp + 3))) (s.peek (stackAddr (s.sp + 2)))) := by
  have hsp2 : s.sp + 1 + 1 = s.sp + 2 := BitVec.add_assoc s.sp 1 1
  have hsp3 : s.sp + 1 + 2 = s.sp + 3 := BitVec.add_assoc s.sp 1 2
  rw [returnFromBreak, pullStatus, pull_eq_peek, pull16_eq_peek, ← hsp2, ← hsp3]
  rfl

/-- RTI is that return, in six cycles (R245). -/
theorem exec_rti (s : State) :
    exec .rti s = .next ((((s.setSp (s.sp + 3)).setP (pulledStatus (s.peek (stackAddr (s.sp + 1))))).setPc
      (wordOf (s.peek (stackAddr (s.sp + 3))) (s.peek (stackAddr (s.sp + 2))))).addCyc 6) := by
  rw [exec_of_plainly (i := .rti) nofun rfl, returnFromBreak_eq]
  rfl

/-- Settles O38: P, SP, PC and CYC are written. -/
theorem returnFromInterruptRestores : Obligations.ReturnFromInterruptRestores := by
  intro s
  exact ⟨encodedAs (by decide), _, exec_rti s, rfl, rfl, rfl, rfl, ⟨fun b => peek_congr b rfl rfl rfl rfl, rfl⟩,
    rfl, rfl, rfl, rfl, ⟨rfl, rfl, rfl, rfl⟩⟩

end Sys2Proof.Machine
end
section
/-!
PROOFS of the fusions' statements (spec/45_undocumented.md R299, R300, R302 to R306): an instruction that reads the byte at its
effective address, stores its result back there, and goes on with that result as a compare, an add or a logic operation of A.
First what the adder writes, then each fusion in one equation for `exec`, and the statements from the equations.
-/

namespace Sys2Proof.Machine

open Claims

/-! ## The effective address -/

/-- The mnemonics that store their result and then use it (R299, R300, R302 to R305). -/
def fusedMnemonics : List Mnemonic := [.dcp, .isb, .slo, .rla, .sre, .rra]

/-- A fusion resolves to an address (R306). -/
theorem eaOf_fused {i : Instr} (hm : i.mnemonic ∈ fusedMnemonics) (s : State) : ∃ a, eaOf i s = .mem a := by
  have hmodes : ∀ m ∈ fusedMnemonics, ∀ row ∈ rowsOf m, row.2.1 ∉ nonMemoryModes := by decide
  exact eaOf_eq_mem_of_rows (ne_of_mem_of_not_mem hm (by decide)) (hmodes _ hm) s

/-! ## DCP -/

/-- DCP is DEC's read and write, then CMP of the result (R299). -/
theorem exec_dcp {i : Instr} {s : State} {a : Word} (hm : i.mnemonic = .dcp) (hea : eaOf i s = .mem a) :
    exec i s = .next ((afterWriteBack i (operandOf i s - 1) s).compare s.a (operandOf i s - 1)) := by
  have hact : actionOf i s.pc = decCompare := by rw [actionOf, hm]
  obtain ⟨⟨ha, -⟩, -⟩ := afterWriteBack_kept hea (operandOf i s - 1)
  rw [exec_of_modifying (by simp [hm]) hact, ha]

/-- Settles O45: one read and one write at the resolved address, then the compare's three flags. -/
theorem decrementThenCompare : Obligations.DecrementThenCompare := by
  intro i s hm
  have hjmp : i.mnemonic ≠ .jmp := by simp [hm]
  obtain ⟨a, hea⟩ := eaOf_fused (i := i) (by simp [hm, fusedMnemonics]) s
  obtain ⟨hreg, hp, hnext, hrec⟩ := afterWriteBack_kept hea (operandOf i s - 1)
  have hkept : FlagsKept s _ [.c, .n, .z] := fun f hf =>
    (flagsKept_compare _ (operandOf i s - 1) s.a f hf).trans (congrArg (getFlag · f) hp)
  exact ⟨encodedAs (by simp [hm]), _, a, exec_dcp hm hea, hea,
    ⟨memoryStored_afterWriteBack hea _, afterWriteBack_events hea _ hjmp, flag_compare _ _ _ .c, nzOf_compare _ _ _⟩,
    hreg, hkept, hnext, hrec⟩

/-! ## ISB and RRA -/

/-- A, C and V are those of the sum of two bytes and a carry (R180). -/
def SumOf (t : State) (a m : Byte) (c : Bool) : Prop :=
  t.a.toNat = (a.toNat + m.toNat + c.toNat) % 256 ∧ t.flag .c = decide (255 < a.toNat + m.toNat + c.toNat) ∧
    t.flag .v = (decide (a.msb = m.msb) && decide (t.a.msb ≠ a.msb))

theorem sumOf_addToA (s : State) (m : Byte) : SumOf (s.addToA m) s.a m (s.flag .c) :=
  ⟨addToA_a_toNat s m, flag_addToA s m .c, (flag_addToA s m .v).trans (addCore_overflow _ _ _)⟩

/-- The adder takes the carry that has just been written (R305). -/
theorem sumOf_addToA_setFlag (s : State) (m : Byte) (c : Bool) : SumOf ((s.setFlag .c c).addToA m) s.a m c := by
  have hcarry : (s.setFlag .c c).flag .c = c := getFlag_setFlag_same s.p .c c
  have hsum := sumOf_addToA (s.setFlag .c c) m
  rwa [hcarry] at hsum

/-- The carry written before the add is one of the add's own four flags. -/
theorem flagsKept_addToA_setFlag (s : State) (m : Byte) (c : Bool) :
    FlagsKept s ((s.setFlag .c c).addToA m) [.c, .v, .n, .z] := by
  intro f hf
  have hc : f ∉ [Flag.c] := List.mem_singleton.not.mpr (ne_of_mem_of_not_mem (by decide) hf).symm
  exact (flagsKept_addToA _ m f hf).trans (flagsKept_setFlag s .c c f hc)

/-- ISB is INC's read and write, then the add of SBC (R300). -/
theorem exec_isb {i : Instr} (hm : i.mnemonic = .isb) (s : State) :
    exec i s = .next ((afterWriteBack i (operandOf i s + 1) s).addToA ((operandOf i s + 1) ^^^ 0xFF)) := by
  have hact : actionOf i s.pc = incSub := by rw [actionOf, hm]
  rw [exec_of_modifying (by simp [hm]) hact, xor_ff]

/-- Settles O46: one read and one write at the resolved address, then the adder on A, the complement and C. -/
theorem incrementThenSubtract : Obligations.IncrementThenSubtract := by
  intro i s hm
  have hjmp : i.mnemonic ≠ .jmp := by simp [hm]
  obtain ⟨a, hea⟩ := eaOf_fused (i := i) (by simp [hm, fusedMnemonics]) s
  obtain ⟨⟨ha, hx, hy, hsp⟩, hp, hnext, hrec⟩ := afterWriteBack_kept hea (operandOf i s + 1)
  have hflag (f : Flag) : (afterWriteBack i (operandOf i s + 1) s).flag f = s.flag f := congrArg (getFlag · f) hp
  have hsum := sumOf_addToA (afterWriteBack i (operandOf i s + 1) s) ((operandOf i s + 1) ^^^ 0xFF)
  rw [ha, hflag] at hsum
  exact ⟨encodedAs (by simp [hm]), _, a, exec_isb hm s, hea,
    ⟨memoryStored_afterWriteBack hea _, afterWriteBack_events hea _ hjmp, hsum⟩, nzOf_addToA _ _, hx, hy, hsp,
    fun f hf => (flagsKept_addToA _ _ f hf).trans (hflag f), hnext, hrec⟩

/-- The byte that RRA stores, and the bit rotated out (R305). -/
def rotatedRight (i : Instr) (s : State) : Byte × Bool := rorF (operandOf i s) (s.flag .c)

/-- RRA is ROR's read and write, then ADC of the result with the bit rotated out as its carry (R305). -/
theorem exec_rra {i : Instr} (hm : i.mnemonic = .rra) (s : State) :
    exec i s = .next (((afterWriteBack i (rotatedRight i s).1 s).setFlag .c (rotatedRight i s).2).addToA
      (rotatedRight i s).1) := by
  have hact : actionOf i s.pc = rotateRightAdd := by rw [actionOf, hm]
  exact exec_of_modifying (by simp [hm]) hact

/-- Settles O48: one read and one write at the resolved address, then the adder, whose carry-in is the flag just written. -/
theorem rotateThenAdd : Obligations.RotateThenAdd := by
  intro i s hm
  have hjmp : i.mnemonic ≠ .jmp := by simp [hm]
  have hr : (rotatedRight i s).1 = _ := rorF_fst (operandOf i s) (s.flag .c)
  obtain ⟨a, hea⟩ := eaOf_fused (i := i) (by simp [hm, fusedMnemonics]) s
  obtain ⟨⟨ha, hx, hy, hsp⟩, hp, hnext, hrec⟩ := afterWriteBack_kept hea (rotatedRight i s).1
  have hsum := sumOf_addToA_setFlag (afterWriteBack i (rotatedRight i s).1 s) (rotatedRight i s).1 (rotatedRight i s).2
  rw [ha] at hsum
  have hkept : FlagsKept s _ [.c, .v, .n, .z] := fun f hf =>
    (flagsKept_addToA_setFlag _ (rotatedRight i s).1 (rotatedRight i s).2 f hf).trans (congrArg (getFlag · f) hp)
  refine ⟨encodedAs (by simp [hm]), _, a, exec_rra hm s, hea, ?_⟩
  dsimp only
  rw [← hr]
  exact ⟨⟨memoryStored_afterWriteBack hea _, afterWriteBack_events hea _ hjmp, hsum⟩, nzOf_addToA _ _, hx, hy, hsp, hkept,
    hnext, hrec⟩

/-! ## SLO, RLA and SRE -/

/-- The shift that a fusion stores the result of (R302 to R304). -/
def shiftPart (m : Mnemonic) : Mnemonic := if m = .slo then .asl else if m = .rla then .rol else .lsr

/-- The logic operation that a fusion goes on with (R302 to R304). -/
def logicPart (m : Mnemonic) : Mnemonic := if m = .slo then .ora else if m = .rla then .and else .eor

/-- The result that the fusion stores, and the bit shifted out. -/
def fusedShift (i : Instr) (s : State) : Byte × Bool :=
  shifted (shiftPart i.mnemonic) (operandOf i s) (s.flag .c)

/-- The fusion's new A. -/
def fusedA (i : Instr) (s : State) : Byte := combined (logicPart i.mnemonic) s.a (fusedShift i s).1

theorem fusedShift_fst (i : Instr) (s : State) :
    (fusedShift i s).1 = BitVec.ofNat 8 (if i.mnemonic = .slo then 2 * (operandOf i s).toNat
      else if i.mnemonic = .rla then 2 * (operandOf i s).toNat + (s.flag .c).toNat else (operandOf i s).toNat / 2) := by
  rw [fusedShift, shiftPart]
  split_ifs <;> simp [shifted_fst, carryIn]

theorem fusedShift_snd {i : Instr} (hm : i.mnemonic ∈ [Mnemonic.slo, .rla, .sre]) (s : State) :
    (fusedShift i s).2 = if i.mnemonic = .sre then (operandOf i s).getLsbD 0 else (operandOf i s).getLsbD 7 := by
  rw [fusedShift, shifted_snd]
  simp only [List.mem_cons, List.not_mem_nil, or_false] at hm
  rcases hm with h | h | h <;> simp [h, shiftPart]

theorem fusedA_eq (i : Instr) (s : State) :
    fusedA i s = if i.mnemonic = .slo then s.a ||| (fusedShift i s).1
      else if i.mnemonic = .rla then s.a &&& (fusedShift i s).1 else s.a ^^^ (fusedShift i s).1 := by
  rw [fusedA, logicPart]
  split_ifs <;> rfl

/-- The fusion is the shift's read and write, then the logic operation of A and the result, with C the bit shifted out. -/
theorem exec_shiftThenLogic {i : Instr} {s : State} {a : Word} (hm : i.mnemonic ∈ [Mnemonic.slo, .rla, .sre])
    (hea : eaOf i s = .mem a) :
    exec i s = .next (((afterWriteBack i (fusedShift i s).1 s).setA (fusedA i s)).shiftFlags (fusedA i s)
      (fusedShift i s).2) := by
  have hne : i.mnemonic ≠ .rts := ne_of_mem_of_not_mem hm (by decide)
  have hact : actionOf i s.pc = modifying (shifted (shiftPart i.mnemonic)) fun r c t =>
      (t.setFlag .c c).resultA (combined (logicPart i.mnemonic) t.a r) := by
    simp only [List.mem_cons, List.not_mem_nil, or_false] at hm
    rcases hm with h | h | h <;> rw [actionOf, h]
    · simp only [shiftLeftOr, shlF_eq_rolF]; rfl
    · rfl
    · simp only [shiftRightEor, shrF_eq_rorF]; rfl
  obtain ⟨⟨ha, -⟩, -⟩ := afterWriteBack_kept hea (fusedShift i s).1
  rw [exec_of_modifying hne hact, ← fusedShift, ha]
  rfl

/-- Settles O47: one read and one write at the resolved address, then A, C from the shift, and N and Z from A. -/
theorem shiftThenLogic : Obligations.ShiftThenLogic := by
  intro i s hm
  have hjmp : i.mnemonic ≠ .jmp := ne_of_mem_of_not_mem hm (by decide)
  have hfused : [Mnemonic.slo, .rla, .sre] ⊆ fusedMnemonics := by decide
  obtain ⟨a, hea⟩ := eaOf_fused (hfused hm) s
  obtain ⟨⟨-, hx, hy, hsp⟩, hp, hnext, hrec⟩ := afterWriteBack_kept hea (fusedShift i s).1
  have hkept : FlagsKept s _ [.c, .n, .z] := fun f hf =>
    (flagsKept_shiftFlags _ (fusedA i s) (fusedShift i s).2 f hf).trans (congrArg (getFlag · f) hp)
  refine ⟨encodedAs (ne_of_mem_of_not_mem hm (by decide)), _, a, exec_shiftThenLogic hm hea, hea, ?_⟩
  dsimp only
  rw [← fusedShift_fst]
  exact ⟨⟨memoryStored_afterWriteBack hea _, afterWriteBack_events hea _ hjmp,
    (flag_shiftFlags _ _ _ .c).trans (fusedShift_snd hm s), fusedA_eq i s⟩, nzOf_shiftFlags _ _ _, hx, hy, hsp, hkept,
    hnext, hrec⟩

end Sys2Proof.Machine
end

section
/-!
PROOFS of the exceptions' statements (spec/60_exceptions.md R330, R333, R339, R347): BRK and RTI undo each other but for B and
U, and the halt check after an RTS is all that writes RUN in a step.
-/

namespace Sys2Proof.Machine

open Claims

/-! ## BRK, then RTI -/

/-- A status that is pushed and pulled again has B cleared and U set, and is otherwise the same (R240, R241). -/
theorem getFlag_pulledStatus_pushedStatus (p : Byte) (f : Flag) :
    getFlag (pulledStatus (pushedStatus p)) f = if f = .b then false else if f = .u then true else getFlag p f := by
  rw [getFlag_pulledStatus, getFlag_pushedStatus]
  cases f <;> rfl

/-- Settles O39: RTI pulls the frame that BRK pushed, since its three stack cells are distinct. -/
theorem breakThenReturnRestores : Obligations.BreakThenReturnRestores := by
  intro pc s
  obtain ⟨-, t, ht, -, hsp, -, hpeek, -, -, -, ha, hx, hy, -⟩ := breakTakesTheTrap s
  obtain ⟨-, u, hu, hup, hupc, husp, -, -, hua, hux, huy, -⟩ := returnFromInterruptRestores (t.setPc pc)
  have hsp1 : t.sp + 1 = s.sp - 2 := by rw [hsp]; bv_omega
  have hsp2 : t.sp + 2 = s.sp - 1 := by rw [hsp]; bv_omega
  have hsp3 : t.sp + 3 = s.sp := by rw [hsp]; bv_omega
  have hcell (b : Word) : t.peek b = if sameCell (stackAddr (s.sp - 2)) b then pushedStatus s.p
      else if sameCell (stackAddr (s.sp - 1)) b then lo8 (s.pc + 2)
      else if sameCell (stackAddr s.sp) b then hi8 (s.pc + 2) else s.peek b := hpeek b
  have hstatus : t.peek (stackAddr (s.sp - 2)) = pushedStatus s.p := by simp [hcell]
  have hlo : t.peek (stackAddr (s.sp - 1)) = lo8 (s.pc + 2) := by simp [hcell]
  have hhi : t.peek (stackAddr s.sp) = hi8 (s.pc + 2) := by simp [hcell]
  have hp : u.p = pulledStatus (t.peek (stackAddr (t.sp + 1))) := hup
  have hpulled : u.pc = wordOf (t.peek (stackAddr (t.sp + 3))) (t.peek (stackAddr (t.sp + 2))) := hupc
  rw [hsp1, hstatus] at hp
  rw [hsp3, hsp2, hhi, hlo, wordOf_hi8_lo8] at hpulled
  have hflag (f : Flag) : u.flag f = if f = .b then false else if f = .u then true else s.flag f := by
    rw [State.flag, hp]
    exact getFlag_pulledStatus_pushedStatus s.p f
  refine ⟨t, u, ht, hu, hpulled, husp.trans hsp3, hflag .b, hflag .u, fun f hf => ?_, hua.trans ha, hux.trans hx,
    huy.trans hy⟩
  simp only [List.mem_cons, List.not_mem_nil, or_false, not_or] at hf
  obtain ⟨hnb, hnu⟩ := hf
  rw [hflag, if_neg hnb, if_neg hnu]

/-! ## RUN after a step -/

/-- After an instruction RUN is as before, unless an RTS has reached the sentinel (R333). -/
theorem afterExecute_run (i : Instr) (pc0 : Word) (s : State) :
    (afterExecute i (actionOf i pc0) s).run =
      if i.opcode = 0x60 ∧ s.cfg.sentinel = some (afterExecute i (actionOf i pc0) s).pc then .halted else s.run := by
  have hrun := actionOf_keeps i (run_kept s.run _) pc0 (resolve i.addrMode s).ea (beforeExecute_run i s)
  obtain ⟨-, hcfg, -⟩ := actionOf_keeps i (fixedStorage_kept (beforeExecute i s) _) pc0 (resolve i.addrMode s).ea
    ⟨rfl, rfl, rfl⟩
  simp [afterExecute, haltCheck_run, hrun, hcfg]

/-- Settles O58: the fetch leaves RUN and the configuration, and the halt check sees the opcode value that it read. -/
theorem haltOnlyAtTheSentinel : Obligations.HaltOnlyAtTheSentinel := by
  intro s t h
  obtain ⟨hrunning, rfl⟩ := step_next h
  have hrun : (fetchInstr s).2.run = .running := (fetchInstr_leaves State.run busRead_run s).trans hrunning
  rw [afterExecute_run, fetchInstr_opcode, fetchInstr_cfg, hrun]

end Sys2Proof.Machine
end

section
/-!
PROOFS of the reset's statements (spec/70_reset_and_hazards.md R370): the vector that PC starts from.
-/

namespace Sys2Proof.Machine

/-- `Read16(0xFFFC)` is two bytes of program storage, and reading them changes nothing (R59, R370). -/
theorem read16_resetVector (s : State) : read16 0xFFFC s = (resetVector s.cfg.prgBanks s.prg, s) := by
  have hlo : busTarget 0xFFFC = .program := busTarget_program (by decide)
  have hhi : busTarget (0xFFFC + 1) = .program := busTarget_program (by decide)
  simp only [read16, busRead_of_program hlo, busRead_of_program hhi]
  rfl

/-- The vector lies at offsets 0x3FFC and 0x3FFD of the last bank, whatever the number of banks (R59, R370). -/
theorem resetVector_eq (banks : Nat) (prg : Memory) :
    resetVector banks prg = wordOf (Memory.read prg ((banks - 1) * 0x4000 + 0x3FFD))
      (Memory.read prg ((banks - 1) * 0x4000 + 0x3FFC)) := by
  simp only [resetVector, programIndex_lastBank banks (a := 0xFFFD) (by decide),
    programIndex_lastBank banks (a := 0xFFFC) (by decide)]
  rfl

/-- Settles O10: P's flags are `getFlag_resetStatus`, PC is given by the two lemmas on the vector, and every other field
is the launch's or a constant. -/
theorem resetTransition : Obligations.ResetTransition := by
  intro l
  have hflag := getFlag_resetStatus l.c l.z l.d l.b l.v l.n
  exact ⟨rfl, rfl, rfl, hflag .c, hflag .z, hflag .d, hflag .b, hflag .v, hflag .n, rfl, rfl, rfl, hflag .i, hflag .u,
    rfl, rfl, rfl, rfl, rfl, read16_resetVector (State.launch l), resetVector_eq l.cfg.prgBanks l.prg, rfl, rfl⟩

end Sys2Proof.Machine
end
